-- ==== Sys2Proof/Word.lean ====
section
/-! DEFINITION. The words of the block: bytes, 16-bit values, the nibbles of an op byte, the 16-byte
payload of a long frame and the 20-byte frame buffer (00_scope.md R9, R10). -/

namespace Sys2Proof

/-- A frame byte or register byte (R9: "every frame byte and register byte is 8 bits"). -/
abbrev Byte := BitVec 8

/-- A 16-bit value: the CRC and a DPI value (R9). -/
abbrev Half := BitVec 16

/-- A function id or software id: 4 bits (R9, R123). -/
abbrev Nibble := BitVec 4

/-- The payload of a long frame, and the data of one block line: 16 bytes (R122, R81). -/
abbrev Payload := Vector Byte 16

/-- OBUF and IBUF: 20 bytes each (R38, R39). -/
abbrev FrameBuf := Vector Byte 20

end Sys2Proof
end

