-- ==== Sys2Proof/Syntax.lean ====
section
/-! DEFINITION. The instructions: one constructor for each row of spec/opcode_table.json, that is the 18
host commands of 30_encoding.md R150 and the 22 wire frames of 41_wire_functions.md R250 to R261; and
the statements of a host program (R154). -/

namespace Sys2Proof

/-- One constructor per row of the opcode table. A command's operands are its operand bytes in the
order of R150, whatever their value: a value out of range is refused by the command itself (R151). -/
inductive Instr where
  /-- 0x01 (R420). -/
  | sessionOpen (ifnum epIn epOut swid : Byte)
  /-- 0x02 (R421). -/
  | sessionClose
  /-- 0x10 (R200). -/
  | encShort (dev feat fn sw a b c : Byte)
  /-- 0x11 (R201). -/
  | encLong (dev feat fn sw : Byte) (payload : Payload)
  /-- 0x12 (R202). -/
  | decStatus
  /-- 0x13 (R203). -/
  | classify
  /-- 0x14 (R204). -/
  | xferSend
  /-- 0x15 (R205). -/
  | xferRecv (tsel : Byte)
  /-- 0x20 (R300). -/
  | crcInit
  /-- 0x21 (R301). -/
  | crcUpdate (b : Byte)
  /-- 0x22 (R302). -/
  | crcBlock
  /-- 0x23 (R303). -/
  | crcRead
  /-- 0x30 (R340). -/
  | blkWrite (line : Byte) (data : Payload)
  /-- 0x31 (R341). -/
  | blkRead (line : Byte)
  /-- 0x32 (R342). -/
  | blkBuild (poll : Byte) (dpi0 dpi1 dpi2 dpi3 dpi4 : Half) (profile : Byte)
  /-- 0x40 (R382). -/
  | seqQueryStatus
  /-- 0x41 (R383). -/
  | seqRecordPass (profile widmode wid : Byte)
  /-- 0x42 (R384). -/
  | seqWriteConfig (profile : Byte)
  /-- Function 0x0 (R250). -/
  | rootShort (dev feat : Byte) (sw : Nibble) (a b c : Byte)
  | rootLong (dev feat : Byte) (sw : Nibble) (payload : Payload)
  /-- Function 0x1 (R251). -/
  | getFeatureShort (dev feat : Byte) (sw : Nibble) (a b c : Byte)
  | getFeatureLong (dev feat : Byte) (sw : Nibble) (payload : Payload)
  /-- Function 0x2 (R252). -/
  | connCheckShort (dev feat : Byte) (sw : Nibble) (a b c : Byte)
  | connCheckLong (dev feat : Byte) (sw : Nibble) (payload : Payload)
  /-- Function 0x3 in a short frame (R253). -/
  | profileSwitchShort (dev feat : Byte) (sw : Nibble) (a b c : Byte)
  /-- Function 0x3 in a long frame (R254). -/
  | setColorLong (dev feat : Byte) (sw : Nibble) (payload : Payload)
  /-- Function 0x4 (R255). -/
  | statusShort (dev feat : Byte) (sw : Nibble) (a b c : Byte)
  | statusLong (dev feat : Byte) (sw : Nibble) (payload : Payload)
  /-- Function 0x5 (R256). -/
  | readRecordShort (dev feat : Byte) (sw : Nibble) (a b c : Byte)
  | readRecordLong (dev feat : Byte) (sw : Nibble) (payload : Payload)
  /-- Function 0x6 (R257). -/
  | startRecordShort (dev feat : Byte) (sw : Nibble) (a b c : Byte)
  | startRecordLong (dev feat : Byte) (sw : Nibble) (payload : Payload)
  /-- Function 0x7 (R258). -/
  | writeRecordShort (dev feat : Byte) (sw : Nibble) (a b c : Byte)
  | writeRecordLong (dev feat : Byte) (sw : Nibble) (payload : Payload)
  /-- Function 0x8 (R259). -/
  | endRecordShort (dev feat : Byte) (sw : Nibble) (a b c : Byte)
  | endRecordLong (dev feat : Byte) (sw : Nibble) (payload : Payload)
  /-- Function 0xB (R260). -/
  | errBShort (dev feat : Byte) (sw : Nibble) (a b c : Byte)
  | errBLong (dev feat : Byte) (sw : Nibble) (payload : Payload)
  /-- Function 0xC (R261). -/
  | errCShort (dev feat : Byte) (sw : Nibble) (a b c : Byte)
  | errCLong (dev feat : Byte) (sw : Nibble) (payload : Payload)
  deriving DecidableEq, Repr

/-- The two spaces of the opcode table: a host command is a byte string on the host command port, a wire
frame is a frame on the transport port. Their first bytes overlap (0x10, 0x11), so the space is told
beside the bytes. -/
inductive Space where
  | hostCommand
  | wireFrame
  deriving DecidableEq, Repr

/-- The space of an instruction's row. -/
def Instr.space : Instr → Space
  | .sessionOpen .. | .sessionClose | .encShort .. | .encLong .. | .decStatus | .classify | .xferSend | .xferRecv ..
  | .crcInit | .crcUpdate .. | .crcBlock | .crcRead | .blkWrite .. | .blkRead .. | .blkBuild ..
  | .seqQueryStatus | .seqRecordPass .. | .seqWriteConfig .. => .hostCommand
  | .rootShort .. | .rootLong .. | .getFeatureShort .. | .getFeatureLong .. | .connCheckShort .. | .connCheckLong ..
  | .profileSwitchShort .. | .setColorLong .. | .statusShort .. | .statusLong .. | .readRecordShort .. | .readRecordLong ..
  | .startRecordShort .. | .startRecordLong .. | .writeRecordShort .. | .writeRecordLong .. | .endRecordShort ..
  | .endRecordLong .. | .errBShort .. | .errBLong .. | .errCShort .. | .errCLong .. => .wireFrame

/-- A condition of HOST_IF: it reads only RES_CODE and RES_DATA (R154); ILEN is seen as RES_DATA[0] of
XFER_RECV. -/
inductive HostCond where
  /-- RES_CODE is one of the codes. -/
  | codeIn (codes : List Byte)
  /-- RES_DATA holds `v` at `i`. -/
  | dataIs (i : Nat) (v : Byte)
  | not (c : HostCond)
  | or (c d : HostCond)
  deriving DecidableEq, Repr

/-- A statement of a host program (R154, R440). Positions in the program stand for its labels. -/
inductive HostStmt where
  /-- A block command: its bytes on the host command port. -/
  | command (bytes : List Byte)
  /-- A wire frame the host has the block emit (log 2). -/
  | frame (bytes : List Byte)
  /-- HOST_IF condition, label. -/
  | branch (cond : HostCond) (target : Nat)
  /-- HOST_GOTO label. -/
  | goto (target : Nat)
  /-- HOST_STOP. -/
  | stop
  deriving DecidableEq, Repr

end Sys2Proof
end

