-- ==== Sys2Proof/WellFormed.lean ====
section
/-! DEFINITION. Which instructions are well-formed: the operand ranges of 30_encoding.md R151, the
function ids of R124 and R125, the software ids of R126, the polling codes of R161 and the profile
digits of R162. An ill-formed instruction still runs: it ends with the result code the spec names. -/

namespace Sys2Proof

/-- fn is a whole byte whose high nibble is 0 and whose low nibble the source lists: {0..8, 0xB, 0xC}
(R124, R125, R151). -/
def legalFunction (fn : Byte) : Bool := fn.toNat ≤ 8 || fn.toNat = 0xB || fn.toNat = 0xC

/-- sw is a whole byte in 1..15 (R126, R151). -/
def legalSwid (sw : Byte) : Bool := 1 ≤ sw.toNat && sw.toNat ≤ 15

/-- The checks on an instruction's operands. -/
def Instr.wellFormed : Instr → Bool
  | .sessionOpen _ _ _ swid => legalSwid swid
  | .encShort _ _ fn sw _ _ _ => legalFunction fn && legalSwid sw
  | .encLong _ _ fn sw _ => legalFunction fn && legalSwid sw
  | .xferRecv tsel => tsel.toNat ≤ 1
  | .blkWrite line _ => line.toNat ≤ 15
  | .blkRead line => line.toNat ≤ 15
  | .blkBuild poll _ _ _ _ _ profile =>
    (1 ≤ poll.toNat && poll.toNat ≤ 4) && (1 ≤ profile.toNat && profile.toNat ≤ 9)
  | .seqRecordPass _ widmode _ => widmode.toNat ≤ 1
  | .sessionClose | .decStatus | .classify | .xferSend | .crcInit | .crcUpdate _ | .crcBlock | .crcRead
  | .seqQueryStatus | .seqWriteConfig _ => true
  | .rootShort _ _ sw _ _ _ | .getFeatureShort _ _ sw _ _ _ | .connCheckShort _ _ sw _ _ _
  | .profileSwitchShort _ _ sw _ _ _ | .statusShort _ _ sw _ _ _ | .readRecordShort _ _ sw _ _ _
  | .startRecordShort _ _ sw _ _ _ | .writeRecordShort _ _ sw _ _ _ | .endRecordShort _ _ sw _ _ _
  | .errBShort _ _ sw _ _ _ | .errCShort _ _ sw _ _ _ => sw != 0
  | .rootLong _ _ sw _ | .getFeatureLong _ _ sw _ | .connCheckLong _ _ sw _ | .setColorLong _ _ sw _
  | .statusLong _ _ sw _ | .readRecordLong _ _ sw _ | .startRecordLong _ _ sw _ | .writeRecordLong _ _ sw _
  | .endRecordLong _ _ sw _ | .errBLong _ _ sw _ | .errCLong _ _ sw _ => sw != 0

end Sys2Proof
end

