-- ==== Sys2Proof/Decode.lean ====
section
/-! DEFINITION. Decoding the bytes of a host command (30_encoding.md R150 to R153) and the bytes of a wire
frame (R120 to R127), total on any bytes and rejecting by name; then the encoder, written from the
same tables; then the reading of an opcode-table word. -/

namespace Sys2Proof

/-! ## Byte order and the op byte -/

/-- The low byte `v[7:0]` (R83). -/
def loByte (v : Half) : Byte := v.extractLsb' 0 8

/-- The high byte `v[15:8]` (R83, R84). -/
def hiByte (v : Half) : Byte := v.extractLsb' 8 8

/-- A 16-bit operand carried low byte first (R86). -/
def halfLE (lo hi : Byte) : Half := hi ++ lo

/-- `op_byte = (function_id << 4) | software_id` (R123). -/
def opByte (fn sw : Nibble) : Byte := fn ++ sw

/-- `function_id = op_byte[7:4]` (R123). -/
def opFunction (op : Byte) : Nibble := op.extractLsb' 4 4

/-- `software_id = op_byte[3:0]` (R123). -/
def opSwid (op : Byte) : Nibble := op.extractLsb' 0 4

/-- Sixteen bytes as a payload; nothing else is one (R122). -/
def payloadOf (bytes : List Byte) : Option Payload :=
  if h : bytes.length = 16 then some ⟨bytes.toArray, by simpa using h⟩ else none

/-! ## Rejections -/

/-- Why bytes are no instruction. -/
inductive DecodeError where
  /-- A command with no code byte (R507). -/
  | emptyCommand
  /-- A command code outside the table of R150 (R152, R507). -/
  | illegalCommand (code : Byte)
  /-- A command whose length does not match its code (R152, R506). -/
  | badLength (code : Byte)
  /-- A frame of a legal shape whose function id is 9, 0xA, 0xD, 0xE or 0xF (R125). -/
  | reservedFunction (fn : Nibble)
  /-- Bytes that are neither a 7-byte frame with report id 0x10 nor a 20-byte frame with 0x11 (R120, R127). -/
  | notAFrame
  deriving DecidableEq, Repr

/-! ## Host commands -/

/-- The code and the length of each command: the columns of R150. -/
def commandTable : List (Nat × Nat) :=
  [(0x01, 5), (0x02, 1), (0x10, 8), (0x11, 21), (0x12, 1), (0x13, 1), (0x14, 1), (0x15, 2),
   (0x20, 1), (0x21, 2), (0x22, 1), (0x23, 1), (0x30, 18), (0x31, 2), (0x32, 13),
   (0x40, 1), (0x41, 4), (0x42, 2)]

/-- The length of the command with a code (R153: "The length of a command is told by its code alone"). -/
def commandLength (code : Byte) : Option Nat := commandTable.lookup code.toNat

/-- A command without operands. -/
def operands0 (i : Instr) : List Byte → Option Instr
  | [] => some i
  | _ => none

/-- A command with one operand byte. -/
def operands1 (f : Byte → Instr) : List Byte → Option Instr
  | [a] => some (f a)
  | _ => none

/-- A command with three operand bytes. -/
def operands3 (f : Byte → Byte → Byte → Instr) : List Byte → Option Instr
  | [a, b, c] => some (f a b c)
  | _ => none

/-- A command with four operand bytes. -/
def operands4 (f : Byte → Byte → Byte → Byte → Instr) : List Byte → Option Instr
  | [a, b, c, d] => some (f a b c d)
  | _ => none

/-- ENC_SHORT's seven operand bytes. -/
def operands7 (f : Byte → Byte → Byte → Byte → Byte → Byte → Byte → Instr) : List Byte → Option Instr
  | [a, b, c, d, e, g, h] => some (f a b c d e g h)
  | _ => none

/-- ENC_LONG's operands: four bytes and the payload. -/
def operandsLong : List Byte → Option Instr
  | dev :: feat :: fn :: sw :: rest => (payloadOf rest).map (.encLong dev feat fn sw)
  | _ => none

/-- BLK_WRITE's operands: the line and its data. -/
def operandsLine : List Byte → Option Instr
  | line :: rest => (payloadOf rest).map (.blkWrite line)
  | _ => none

/-- BLK_BUILD's operands: the DPI values are carried low byte first (R86). -/
def operandsBuild : List Byte → Option Instr
  | [poll, l0, h0, l1, h1, l2, h2, l3, h3, l4, h4, profile] =>
    some (.blkBuild poll (halfLE l0 h0) (halfLE l1 h1) (halfLE l2 h2) (halfLE l3 h3) (halfLE l4 h4) profile)
  | _ => none

/-- The command with a code and operand bytes, if they are as many as R150 gives the code. -/
def commandOf (code : Byte) (operands : List Byte) : Option Instr :=
  match code.toNat with
  | 0x01 => operands4 .sessionOpen operands
  | 0x02 => operands0 .sessionClose operands
  | 0x10 => operands7 .encShort operands
  | 0x11 => operandsLong operands
  | 0x12 => operands0 .decStatus operands
  | 0x13 => operands0 .classify operands
  | 0x14 => operands0 .xferSend operands
  | 0x15 => operands1 .xferRecv operands
  | 0x20 => operands0 .crcInit operands
  | 0x21 => operands1 .crcUpdate operands
  | 0x22 => operands0 .crcBlock operands
  | 0x23 => operands0 .crcRead operands
  | 0x30 => operandsLine operands
  | 0x31 => operands1 .blkRead operands
  | 0x32 => operandsBuild operands
  | 0x40 => operands0 .seqQueryStatus operands
  | 0x41 => operands3 .seqRecordPass operands
  | 0x42 => operands1 .seqWriteConfig operands
  | _ => none

/-- Decoding a host command: an unknown code before a wrong length (R513, 1 and 2). -/
def decodeCommand : List Byte → Except DecodeError Instr
  | [] => .error .emptyCommand
  | code :: operands =>
    match commandLength code with
    | none => .error (.illegalCommand code)
    | some _ =>
      match commandOf code operands with
      | some i => .ok i
      | none => .error (.badLength code)

/-! ## Wire frames -/

/-- The short frame with a function id (R124). DESIGN CHOICE: function 3 in a short frame is PROFILE_SWITCH
whatever its feature index; R124 tells its two meanings apart by format and feature index (log 33). -/
def shortFrameOf (dev feat op a b c : Byte) : Except DecodeError Instr :=
  match (opFunction op).toNat with
  | 0x0 => .ok (.rootShort dev feat (opSwid op) a b c)
  | 0x1 => .ok (.getFeatureShort dev feat (opSwid op) a b c)
  | 0x2 => .ok (.connCheckShort dev feat (opSwid op) a b c)
  | 0x3 => .ok (.profileSwitchShort dev feat (opSwid op) a b c)
  | 0x4 => .ok (.statusShort dev feat (opSwid op) a b c)
  | 0x5 => .ok (.readRecordShort dev feat (opSwid op) a b c)
  | 0x6 => .ok (.startRecordShort dev feat (opSwid op) a b c)
  | 0x7 => .ok (.writeRecordShort dev feat (opSwid op) a b c)
  | 0x8 => .ok (.endRecordShort dev feat (opSwid op) a b c)
  | 0xB => .ok (.errBShort dev feat (opSwid op) a b c)
  | 0xC => .ok (.errCShort dev feat (opSwid op) a b c)
  | _ => .error (.reservedFunction (opFunction op))

/-- The long frame with a function id (R124). DESIGN CHOICE: function 3 in a long frame is SET_COLOR whatever
its feature index; R124 tells its two meanings apart by format and feature index (log 33). -/
def longFrameOf (dev feat op : Byte) (payload : Payload) : Except DecodeError Instr :=
  match (opFunction op).toNat with
  | 0x0 => .ok (.rootLong dev feat (opSwid op) payload)
  | 0x1 => .ok (.getFeatureLong dev feat (opSwid op) payload)
  | 0x2 => .ok (.connCheckLong dev feat (opSwid op) payload)
  | 0x3 => .ok (.setColorLong dev feat (opSwid op) payload)
  | 0x4 => .ok (.statusLong dev feat (opSwid op) payload)
  | 0x5 => .ok (.readRecordLong dev feat (opSwid op) payload)
  | 0x6 => .ok (.startRecordLong dev feat (opSwid op) payload)
  | 0x7 => .ok (.writeRecordLong dev feat (opSwid op) payload)
  | 0x8 => .ok (.endRecordLong dev feat (opSwid op) payload)
  | 0xB => .ok (.errBLong dev feat (opSwid op) payload)
  | 0xC => .ok (.errCLong dev feat (opSwid op) payload)
  | _ => .error (.reservedFunction (opFunction op))

/-- Decoding a wire frame: the report id tells the length (R127). -/
def decodeFrame : List Byte → Except DecodeError Instr
  | report :: dev :: feat :: op :: rest =>
    if report = 0x10 then
      match rest with
      | [a, b, c] => shortFrameOf dev feat op a b c
      | _ => .error .notAFrame
    else if report = 0x11 then
      match payloadOf rest with
      | some payload => longFrameOf dev feat op payload
      | none => .error .notAFrame
    else .error .notAFrame
  | _ => .error .notAFrame

/-- Decoding in the space the bytes belong to. -/
def decode : Space → List Byte → Except DecodeError Instr
  | .hostCommand => decodeCommand
  | .wireFrame => decodeFrame

/-! ## The encoder -/

/-- The bytes of a short frame (R121). -/
def shortFrame (dev feat : Byte) (fn sw : Nibble) (a b c : Byte) : List Byte :=
  [0x10, dev, feat, opByte fn sw, a, b, c]

/-- The bytes of a long frame (R122). -/
def longFrame (dev feat : Byte) (fn sw : Nibble) (payload : Payload) : List Byte :=
  0x11 :: dev :: feat :: opByte fn sw :: payload.toList

/-- The bytes of an instruction in its space: the command of R150, or the frame of R121 and R122. -/
def encode : Instr → List Byte
  | .sessionOpen ifnum epIn epOut swid => [0x01, ifnum, epIn, epOut, swid]
  | .sessionClose => [0x02]
  | .encShort dev feat fn sw a b c => [0x10, dev, feat, fn, sw, a, b, c]
  | .encLong dev feat fn sw payload => 0x11 :: dev :: feat :: fn :: sw :: payload.toList
  | .decStatus => [0x12]
  | .classify => [0x13]
  | .xferSend => [0x14]
  | .xferRecv tsel => [0x15, tsel]
  | .crcInit => [0x20]
  | .crcUpdate b => [0x21, b]
  | .crcBlock => [0x22]
  | .crcRead => [0x23]
  | .blkWrite line data => 0x30 :: line :: data.toList
  | .blkRead line => [0x31, line]
  | .blkBuild poll d0 d1 d2 d3 d4 profile =>
    [0x32, poll, loByte d0, hiByte d0, loByte d1, hiByte d1, loByte d2, hiByte d2, loByte d3, hiByte d3,
     loByte d4, hiByte d4, profile]
  | .seqQueryStatus => [0x40]
  | .seqRecordPass profile widmode wid => [0x41, profile, widmode, wid]
  | .seqWriteConfig profile => [0x42, profile]
  | .rootShort dev feat sw a b c => shortFrame dev feat 0x0 sw a b c
  | .rootLong dev feat sw payload => longFrame dev feat 0x0 sw payload
  | .getFeatureShort dev feat sw a b c => shortFrame dev feat 0x1 sw a b c
  | .getFeatureLong dev feat sw payload => longFrame dev feat 0x1 sw payload
  | .connCheckShort dev feat sw a b c => shortFrame dev feat 0x2 sw a b c
  | .connCheckLong dev feat sw payload => longFrame dev feat 0x2 sw payload
  | .profileSwitchShort dev feat sw a b c => shortFrame dev feat 0x3 sw a b c
  | .setColorLong dev feat sw payload => longFrame dev feat 0x3 sw payload
  | .statusShort dev feat sw a b c => shortFrame dev feat 0x4 sw a b c
  | .statusLong dev feat sw payload => longFrame dev feat 0x4 sw payload
  | .readRecordShort dev feat sw a b c => shortFrame dev feat 0x5 sw a b c
  | .readRecordLong dev feat sw payload => longFrame dev feat 0x5 sw payload
  | .startRecordShort dev feat sw a b c => shortFrame dev feat 0x6 sw a b c
  | .startRecordLong dev feat sw payload => longFrame dev feat 0x6 sw payload
  | .writeRecordShort dev feat sw a b c => shortFrame dev feat 0x7 sw a b c
  | .writeRecordLong dev feat sw payload => longFrame dev feat 0x7 sw payload
  | .endRecordShort dev feat sw a b c => shortFrame dev feat 0x8 sw a b c
  | .endRecordLong dev feat sw payload => longFrame dev feat 0x8 sw payload
  | .errBShort dev feat sw a b c => shortFrame dev feat 0xB sw a b c
  | .errBLong dev feat sw payload => longFrame dev feat 0xB sw payload
  | .errCShort dev feat sw a b c => shortFrame dev feat 0xC sw a b c
  | .errCLong dev feat sw payload => longFrame dev feat 0xC sw payload

/-! ## Words of the opcode table -/

/-- Byte `k` of a number, byte 0 the least significant. -/
def byteAt (w k : Nat) : Byte := BitVec.ofNat 8 (w / 2 ^ (8 * k))

/-- A wire-frame row numbers "frame bytes 0..3, big-endian" as bits 31..0, so byte `k` of the frame is
byte `3 - k` of the number; later bytes count on from bit 32. -/
def frameByteAt (w k : Nat) : Byte := if k < 4 then byteAt w (3 - k) else byteAt w k

/-- A table word is a wire frame's when it has a frame row's width and a frame's report id in bits
31..24; every other word is a host command's, whose row numbers its code as bits 7..0 (log 25). -/
def isFrameWord (nbits w : Nat) : Bool :=
  (nbits = 32 || nbits = 56 || nbits = 160) && (byteAt w 3 = 0x10 || byteAt w 3 = 0x11)

/-- The space and the bytes of the instruction a table word begins, every bit above `nbits` zero. -/
def tableWordBytes (nbits w : Nat) : Space × List Byte :=
  let v := w % 2 ^ nbits
  if isFrameWord nbits v then
    (.wireFrame, (List.range (if byteAt v 3 = 0x10 then 7 else 20)).map (frameByteAt v))
  else
    (.hostCommand, (List.range ((commandLength (byteAt v 0)).getD (nbits / 8))).map (byteAt v))

/-- The instruction the decoder reads from a word of the opcode table. -/
def decodeTableWord (nbits w : Nat) : Option Instr :=
  match decode (tableWordBytes nbits w).1 (tableWordBytes nbits w).2 with
  | .ok i => some i
  | .error _ => none

end Sys2Proof
end

