-- ==== Sys2Proof/Config.lean ====
section
/-! DEFINITION. What is fixed for one machine and what is left free: the parameters of 00_scope.md R9,
the types of the transport port's calls and answers (20_memory.md R95), and the opaque constants that
stand for every value the spec leaves open. -/

namespace Sys2Proof

/-- One call of `write_control`, with the six fields of R130. -/
structure ControlWrite where
  /-- `request_type`, the literal 0x21. -/
  requestType : Byte
  /-- `request`, the literal 9. -/
  request     : Byte
  /-- 0x0210 for a short frame, 0x0211 for a long one. -/
  value       : Half
  /-- `index = SES_IFNUM`. -/
  index       : Byte
  /-- The frame, whole. -/
  data        : List Byte
  /-- P_TIMEOUT. -/
  timeout     : Nat
  deriving DecidableEq, Repr, Inhabited

/-- One call of `read_interrupt` (R130); the buffer is always 20 bytes. -/
structure InterruptRead where
  /-- `endpoint_address = SES_EP_IN`. -/
  endpoint : Byte
  /-- P_TIMEOUT or P_CLEAR_TIMEOUT. -/
  timeout  : Nat
  deriving DecidableEq, Repr, Inhabited

/-- The oracle's answer to a TxWrite: `Ok(n)` for any n, or `Fail` (R95). -/
inductive WriteAnswer where
  | ok (n : Nat)
  | fail
  deriving DecidableEq, Repr, Inhabited

/-- The oracle's answer to a TxRead: `Ok(n, bytes)` or `Fail` (R95). The port delivers at most 20
bytes of `bytes` (log 7). -/
inductive ReadAnswer where
  | ok (bytes : List Byte)
  | fail
  deriving DecidableEq, Repr, Inhabited

/-- The events of the transport history (R95): every TxWrite and every TxRead, in order. A failed read
is an IN event too (log 8). -/
inductive Event where
  | out (call : ControlWrite)
  | inp (call : InterruptRead) (answer : ReadAnswer)
  deriving DecidableEq, Repr, Inhabited

/-- The parameters of R9 that the block reads. A statement over every State holds for every value of
every field (log 5). -/
structure Params where
  /-- P_PID, the product id; no rule of the block reads it (R9, R523). -/
  pid               : Half
  /-- P_FEAT_PROFILE. -/
  featProfile       : Byte
  /-- P_FEAT_LED. -/
  featLed           : Byte
  /-- P_STATUS_PARAMS, the bytes a, b, c of the status query. -/
  statusA           : Byte
  statusB           : Byte
  statusC           : Byte
  /-- P_END_PARAMS, the bytes a, b, c of the End frame. -/
  endA              : Byte
  endB              : Byte
  endC              : Byte
  /-- P_BEGIN_PAYLOAD where it is given; a profile without an entry has `Config.beginPayload` (log 6). -/
  beginTable        : List (Byte × Payload)
  /-- P_WID_POS is `16 + widOffset`: R163 puts it at 16..31 (log 16). -/
  widOffset         : Nibble
  /-- P_T_FIXED, the 256-byte template; an offset without an entry holds 0x00 (log 17). -/
  template          : List Host.Cell
  /-- P_MAX_DISCARD is `extraDiscard + 1`: R9 says "at least 1" (log 16). -/
  extraDiscard      : Nat
  /-- P_MAX_PROFILE_POLLS is `extraPolls + 1`: R9 says "at least 1" (log 16). -/
  extraPolls        : Nat
  /-- P_TIMEOUT in milliseconds (log 17). -/
  timeout           : Nat
  /-- P_CLEAR_TIMEOUT in milliseconds (log 17). -/
  clearTimeout      : Nat
  /-- P_LED_RESPONSES. -/
  ledResponses      : Nat
  deriving DecidableEq, Repr, Inhabited

/-- P_MAX_DISCARD (R9). -/
def Params.maxDiscard (p : Params) : Nat := p.extraDiscard + 1

/-- P_MAX_PROFILE_POLLS (R9). -/
def Params.maxPolls (p : Params) : Nat := p.extraPolls + 1

/-- P_WID_POS (R9, R163). -/
def Params.widPos (p : Params) : Nat := 16 + p.widOffset.toNat

/-- P_VID, the vendor id the source fixes (R9); no rule of the block reads it. -/
def vendorId : Half := 0x046D

/-- The machine's own parameter values: open, so no body (R9; log 5). -/
opaque Config.params : Params

/-- P_BEGIN_PAYLOAD(p): open, so no body (R9, N2; log 6). -/
opaque Config.beginPayload : Byte → Payload

/-- The transport's answer to a TxWrite after a history: any value (R95; log 7). -/
opaque Config.oracleWrite : List Event → ControlWrite → WriteAnswer

/-- The transport's answer to a TxRead after a history: any value (R95; log 7). -/
opaque Config.oracleRead : List Event → InterruptRead → ReadAnswer

/-- The free bytes: what an unspecified byte holds (R39, R421, I8, I11; logs 11 and 12). -/
opaque Config.freeByte : Nat → Byte

/-- The reference values of R9 (column REF) with the Begin payloads of the profiles 0 to 9. Only tests
use it: "A REF value is not a claim about the device". P_PID has its REF, P_CLEAR_TIMEOUT has none and
stands here as 0. -/
def Config.ref : Params where
  pid          := 0xC08C
  featProfile  := 0x0A
  featLed      := 0x0E
  statusA      := 0
  statusB      := 0
  statusC      := 0
  endA         := 0
  endB         := 0
  endC         := 0
  beginTable   := (List.range 10).map fun p => (BitVec.ofNat 8 p, (Vector.replicate 16 0).set 0 (BitVec.ofNat 8 p))
  widOffset    := 2
  template     := []
  extraDiscard := 7
  extraPolls   := 15
  timeout      := 1000
  clearTimeout := 0
  ledResponses := 1

end Sys2Proof
end

