-- ==== Sys2Proof/Machine/State.lean ====
section
/-! DEFINITION. The state of the block as plain data (10_state.md R31 to R59), the model's own fields
beside it, the ways a step can stop, and the state after reset (R58, R600). -/

namespace Sys2Proof.Machine

/-- SES_*: the session registers (R31 to R37). SES_DEVIDX is hardwired and not stored (log 20). -/
structure Session where
  /-- SES_OPEN (R31). -/
  isOpen : Bool
  /-- SES_IFNUM (R32). -/
  ifnum  : Byte
  /-- SES_EP_IN (R33). -/
  epIn   : Byte
  /-- SES_EP_OUT (R34); no rule reads it. -/
  epOut  : Byte
  /-- SES_SWID (R36). -/
  swid   : Nibble
  /-- SES_FATAL (R37). -/
  fatal  : Bool
  deriving DecidableEq, Repr

/-- OLEN: "one of {0, 7, 20}" (R38; log 14). -/
inductive OutLen where
  /-- 0 -/
  | empty
  /-- 7 -/
  | short
  /-- 20 -/
  | long
  deriving DecidableEq, Repr

/-- A decoded status: valid, error code, current profile (R43, R53). -/
structure Status where
  valid : Bool
  err   : Byte
  prof  : Byte
  deriving DecidableEq, Repr

/-- SEQ_OP: the sequencer command in progress (R44). -/
inductive SeqOp where
  | none
  | query
  | pass
  | write
  deriving DecidableEq, Repr

/-- SEQ_PHASE: the ten states of R45; the values 10 to 15 "are never taken" (I9; log 14). -/
inductive SeqPhase where
  | idle
  | qTx
  | qRx
  | prep
  | bTx
  | bRx
  | lTx
  | lRx
  | eTx
  | eRx
  deriving DecidableEq, Repr

/-- SEQ_* and END_ST*: the sequencer registers (R44 to R53). -/
structure Sequencer where
  /-- SEQ_OP (R44). -/
  op      : SeqOp
  /-- SEQ_PHASE (R45). -/
  phase   : SeqPhase
  /-- SEQ_PASS (R46). -/
  pass    : BitVec 2
  /-- SEQ_PASSES (R46). -/
  passes  : BitVec 2
  /-- SEQ_LINE (R47). -/
  line    : BitVec 5
  /-- SEQ_RXLEFT (R48). -/
  rxleft  : BitVec 2
  /-- SEQ_TGT (R49). -/
  tgt     : Byte
  /-- SEQ_WID (R50). -/
  wid     : Byte
  /-- SEQ_WIDBASE (R50). -/
  widbase : Byte
  /-- SEQ_WIDMODE (R50). -/
  widmode : Bool
  /-- SEQ_POLLS, "8 bits or wider" (R51; log 15). -/
  polls   : Nat
  /-- SEQ_DISC, "8 bits or wider" (R52; log 15). -/
  disc    : Nat
  /-- END_ST1 (R53). -/
  endSt1  : Status
  /-- END_ST2 (R53). -/
  endSt2  : Status
  deriving DecidableEq, Repr

/-- The eleven result codes of R500. -/
inductive ResultCode where
  | ok
  | transportError
  | protocolMismatch
  | deviceRejected
  | profilePollExhausted
  | illegalFunction
  | illegalSwid
  | blockIncomplete
  | badOperand
  | notOpen
  | illegalCommand
  deriving DecidableEq, Repr

/-- RES_INFO: `[phase, pass, line, aux]` (R54, R516). -/
structure FaultRecord where
  phase : Byte
  pass  : Byte
  line  : Byte
  aux   : Byte
  deriving DecidableEq, Repr

/-- RES_*: the result registers (R54). RES_DLEN is the length of `data` (log 13). -/
structure Result where
  code : ResultCode
  info : FaultRecord
  data : List Byte
  deriving DecidableEq, Repr

/-- BLK's contents: (offset, byte) pairs in one canonical form, offsets strictly rising and below 256,
no byte equal to what an unlisted offset reads as (log 10). -/
abbrev Memory := List Host.Cell

/-- The whole state: the block's (R31 to R54), the event history (R95), and the model's own fields. -/
structure State where
  /-- SES_* (R31 to R37). -/
  ses         : Session
  /-- OBUF (R38). -/
  obuf        : FrameBuf
  /-- OLEN (R38). -/
  olen        : OutLen
  /-- IBUF (R39). -/
  ibuf        : FrameBuf
  /-- ILEN (R39). -/
  ilen        : Fin 21
  /-- CRC (R40). -/
  crc         : Half
  /-- BLK (R41). -/
  blk         : Memory
  /-- LINE_VALID (R42). -/
  lineValid   : BitVec 16
  /-- ST_VALID, ST_ERR, ST_PROF (R43). -/
  st          : Status
  /-- SEQ_*, END_ST* (R44 to R53). -/
  seq         : Sequencer
  /-- RES_* (R54). -/
  res         : Result
  /-- The transport events so far, oldest first (R95, R525). -/
  history     : List Event
  /-- The model's own: the parameters of R9; no step changes them (log 5). -/
  par         : Params
  /-- The model's own: answers to the next TxWrites, already decided (log 7). -/
  writeScript : List WriteAnswer
  /-- The model's own: answers to the next TxReads, already decided (log 7). -/
  readScript  : List ReadAnswer
  /-- The model's own: how many free bytes have been drawn (log 11). -/
  free        : Nat
  /-- The model's own: the host program (R154; log 1). -/
  prog        : List HostStmt
  /-- The model's own: the host's position in `prog` (log 1). -/
  pos         : Nat
  deriving DecidableEq, Repr

/-- The ways a step stops with a fault. -/
inductive Fault where
  /-- Raised by SEQ_QUERY_STATUS, SEQ_RECORD_PASS, SEQ_WRITE_CONFIG and STATUS.short if the sequencer has
  not come to IDLE within the step bound of R394. Safe: R394 says it always has (log 4). -/
  | sequencerOverrun
  deriving DecidableEq, Repr

/-- The ways a step has no meaning. -/
inductive Refusal where
  /-- Raised by `exec` for an instruction without a meaning; no arm of this model does. Safe. -/
  | notModelled (mnemonic : String)
  /-- Raised by `step` for a host statement that asks for a frame whose bytes are neither a short nor a
  long frame; the spec has no such event. Safe (log 23). -/
  | malformedFrame
  deriving DecidableEq, Repr

/-- The status `(0, 0, 0)`: the reset value and the sentinel of a failed decode (R43, R53). -/
def Status.zero : Status := ⟨false, 0, 0⟩

/-- RES_INFO = 00 00 00 00 (R54). -/
def FaultRecord.zero : FaultRecord := ⟨0, 0, 0, 0⟩

/-- The sequencer after reset (R58). -/
def Sequencer.reset : Sequencer where
  op      := .none
  phase   := .idle
  pass    := 0
  passes  := 1
  line    := 0
  rxleft  := 0
  tgt     := 0
  wid     := 0
  widbase := 0
  widmode := false
  polls   := 0
  disc    := 0
  endSt1  := Status.zero
  endSt2  := Status.zero

/-- The block after reset: the table of R58. SES_IFNUM, SES_EP_IN, SES_EP_OUT, SES_SWID, OBUF and IBUF are
unspecified there and 0 here (log 9); BLK lists nothing (log 10); the parameters stay open (log 5). -/
def State.reset : State where
  ses         := ⟨false, 0, 0, 0, 0, false⟩
  obuf        := Vector.replicate 20 0
  olen        := .empty
  ibuf        := Vector.replicate 20 0
  ilen        := 0
  crc         := 0xFFFF
  blk         := []
  lineValid   := 0
  st          := Status.zero
  seq         := Sequencer.reset
  res         := ⟨.ok, FaultRecord.zero, []⟩
  history     := []
  par         := Config.params
  writeScript := []
  readScript  := []
  free        := 0
  prog        := []
  pos         := 0

end Sys2Proof.Machine
end

