-- ==== Sys2Proof/Machine/Ops.lean ====
section
/-! DEFINITION. The operations every meaning is built from: BLK's bytes (20_memory.md R80, R81), the frame
buffers (R38, R39), the transport port (R89, R95, R130), and the two ends of a command: `raise` in the
place of taking an exception and `finish` as the normal end (60_exceptions.md R510). -/

namespace Sys2Proof.Machine

/-- What a meaning answers. -/
abbrev Outcome := Host.Outcome State Fault Refusal

/-! ## BLK -/

/-- What an offset of BLK that nothing is listed for reads as: DESIGN CHOICE 0x00, the spec gives BLK no
reset contents (R41); LINE_VALID keeps a program from reading it (R42; log 10). -/
def Memory.blank : Byte := 0

/-- The byte at an offset. -/
def Memory.read : Memory → Nat → Byte
  | [], _ => Memory.blank
  | (k, v) :: rest, a => if k = a then v else Memory.read rest a

/-- The pair put at its place in the rising order. -/
def Memory.insert (a : Nat) (b : Byte) : Memory → Memory
  | [] => [(a, b)]
  | (k, v) :: rest => if a < k then (a, b) :: (k, v) :: rest else (k, v) :: Memory.insert a b rest

/-- The memory with no entry for an offset. -/
def Memory.erase (m : Memory) (a : Nat) : Memory := m.filter fun cell => cell.1 != a

/-- Writing one byte; the canonical form lists no byte equal to `blank`. -/
def Memory.write (m : Memory) (a : Nat) (b : Byte) : Memory :=
  if b = Memory.blank then m.erase a else Memory.insert a b (m.erase a)

/-- `n` bytes from an offset, in order. -/
def Memory.readBytes (m : Memory) (a n : Nat) : List Byte := (List.range n).map fun i => m.read (a + i)

/-- Bytes written from an offset on, in order. -/
def Memory.writeBytes : Memory → Nat → List Byte → Memory
  | m, _, [] => m
  | m, a, b :: rest => Memory.writeBytes (m.write a b) (a + 1) rest

/-- The canonical form: offsets strictly rising, every offset one of BLK's 256 (R80), no blank entry. -/
abbrev Memory.wf (m : Memory) : Prop :=
  m.Pairwise (fun x y => x.1 < y.1) ∧ ∀ cell ∈ m, cell.1 < 256 ∧ cell.2 ≠ Memory.blank

/-- Line k is `BLK[16k..16k+15]` (R41, R81). -/
def Memory.line (m : Memory) (k : Nat) : List Byte := m.readBytes (16 * k) 16

/-- The same line as a long frame's payload. -/
def Memory.linePayload (m : Memory) (k : Nat) : Payload :=
  ⟨(m.line k).toArray, by simp [Memory.line, Memory.readBytes]⟩

/-! ## Frame buffers -/

/-- OLEN in bytes (R38). -/
def OutLen.bytes : OutLen → Nat
  | .empty => 0
  | .short => 7
  | .long => 20

/-- A buffer with its first bytes overwritten and the rest left as they were (R200). -/
def overlay (buf : FrameBuf) (bytes : List Byte) : FrameBuf :=
  ⟨((bytes ++ buf.toList.drop bytes.length).take 20).toArray, by simp; omega⟩

/-- A frame put into OBUF, with its OLEN (R38). -/
def loadFrame (len : OutLen) (frame : List Byte) (s : State) : State :=
  { s with obuf := overlay s.obuf frame, olen := len }

/-- `OBUF[0..OLEN-1]`, the frame a send transmits (R38). -/
def frameOut (s : State) : List Byte := s.obuf.toList.take s.olen.bytes

/-- `n` free values drawn from a count on (I8; log 11). -/
def freeBytes (free n : Nat) : List Byte := (List.range n).map fun i => Config.freeByte (free + i)

/-- `bytes` and then free values, 20 bytes in all. -/
def inbound (free : Nat) (bytes : List Byte) : FrameBuf :=
  ⟨((bytes ++ freeBytes free 20).take 20).toArray, by simp [freeBytes]⟩

/-- IBUF after a read of `bytes`: they lie first, and every byte after them is a free value (R39: "A read
leaves IBUF[n..19] unspecified"; log 11). -/
def storeInbound (bytes : List Byte) (s : State) : State :=
  { s with
    ibuf := inbound s.free bytes
    ilen := ⟨min bytes.length 20, by omega⟩
    free := s.free + 20 }

/-! ## The ends of a command -/

/-- Where a raise stands: in `step()` of R380, or anywhere else (R510). -/
inductive RaiseSite where
  | step
  | outside
  deriving DecidableEq, Repr

/-- SEQ_PHASE as a byte: the encoding of R45. -/
def SeqPhase.code : SeqPhase → Byte
  | .idle => 0
  | .qTx => 1
  | .qRx => 2
  | .prep => 3
  | .bTx => 4
  | .bRx => 5
  | .lTx => 6
  | .lRx => 7
  | .eTx => 8
  | .eRx => 9

/-- RES_CODE as a byte: the codes of R500. -/
def ResultCode.code : ResultCode → Byte
  | .ok => 0x00
  | .transportError => 0x01
  | .protocolMismatch => 0x02
  | .deviceRejected => 0x03
  | .profilePollExhausted => 0x04
  | .illegalFunction => 0x05
  | .illegalSwid => 0x06
  | .blockIncomplete => 0x07
  | .badOperand => 0x08
  | .notOpen => 0x09
  | .illegalCommand => 0x0A

/-- RES_INFO of a raise: the sequencer's place at the raise if it is in `step()`, else zeros, then aux
(R510). -/
def faultRecord (site : RaiseSite) (aux : Byte) (s : State) : FaultRecord :=
  match site with
  | .step => ⟨s.seq.phase.code, s.seq.pass.setWidth 8, s.seq.line.setWidth 8, aux⟩
  | .outside => ⟨0, 0, 0, aux⟩

/-- `raise C(aux)` (R510): the fault and the refusal alike, in the place of an exception's entry. A
TRANSPORT_ERROR sets SES_FATAL (R511). -/
def raise (site : RaiseSite) (code : ResultCode) (aux : Byte) (s : State) : State :=
  { s with
    res := ⟨code, faultRecord site aux s, []⟩
    ses.fatal := s.ses.fatal || code = .transportError
    seq.op := .none
    seq.phase := .idle
    seq.pass := 0 }

/-- `finish(code)` (R510) of a command whose result data is `data`, its length RES_DLEN. -/
def finish (code : ResultCode) (data : List Byte) (s : State) : State :=
  { s with res := ⟨code, FaultRecord.zero, data⟩ }

/-! ## Reset -/

/-- The power-on reset event (R600), at any moment, inside a command too: every register of the block takes the
value of R58, and a command in progress ends without a result. The transport's history and the model's own
fields are not the block's registers and stay (log 3). -/
def powerOn (s : State) : State :=
  { State.reset with
    history     := s.history
    par         := s.par
    writeScript := s.writeScript
    readScript  := s.readScript
    free        := s.free
    prog        := s.prog
    pos         := s.pos }

/-! ## Admission -/

/-- The outcome of one admission check: nothing, or the code and aux of the refusal (R513). -/
abbrev Check := Option (ResultCode × Byte)

/-- A check that fails when `bad` holds. -/
def check (bad : Bool) (code : ResultCode) (aux : Byte) : Check := if bad then some (code, aux) else none

/-- "When more than one check fails, the command reports the first failing one" (R513). -/
def firstFailing : List Check → Check
  | [] => none
  | some failure :: _ => some failure
  | none :: rest => firstFailing rest

/-- A command's checks in their order, then its body if all pass (R513). -/
def guarded (checks : List Check) (s : State) (body : State → Outcome) : Outcome :=
  match firstFailing checks with
  | some (code, aux) => .next (raise .outside code aux s)
  | none => body s

/-- The session checks of every command that uses the transport (R512): NOT_OPEN, then the sticky
TRANSPORT_ERROR with aux 0. -/
def transportChecks (s : State) : List Check :=
  [check (!s.ses.isOpen) .notOpen 0, check s.ses.fatal .transportError 0]

/-- A second command of a composite runs only if the first ended with OK, by R440's policy (log 2). -/
def andThen (first : Outcome) (second : State → Outcome) : Outcome :=
  match first with
  | .next t => if t.res.code = .ok then second t else .next t
  | .fault f => .fault f
  | .refused r => .refused r

/-! ## The transport port -/

/-- The `write_control` call that sends the frame in OBUF (R130, R127). -/
def controlWrite (s : State) : ControlWrite where
  requestType := 0x21
  request     := 9
  value       := if s.olen = .short then 0x0210 else 0x0211
  index       := s.ses.ifnum
  data        := frameOut s
  timeout     := s.par.timeout

/-- The transport's answer to the next TxWrite: the next decided one, else the oracle's (R95; log 7). -/
def nextWriteAnswer (s : State) : WriteAnswer :=
  match s.writeScript with
  | answer :: _ => answer
  | [] => Config.oracleWrite s.history (controlWrite s)

/-- `TxWrite` as an event: the call is recorded and its answer used up (R95). -/
def afterWrite (s : State) : State :=
  { s with history := s.history ++ [.out (controlWrite s)], writeScript := s.writeScript.tail }

/-- The port delivers at most the 20 bytes its buffer holds (R80, R95: 0 ≤ n ≤ 20). -/
def clip : ReadAnswer → ReadAnswer
  | .ok bytes => .ok (bytes.take 20)
  | .fail => .fail

/-- The `read_interrupt` call on the session's IN endpoint (R130). -/
def interruptRead (timeout : Nat) (s : State) : InterruptRead := ⟨s.ses.epIn, timeout⟩

/-- The transport's answer to the next TxRead (R95; log 7). -/
def nextReadAnswer (timeout : Nat) (s : State) : ReadAnswer :=
  match s.readScript with
  | answer :: _ => clip answer
  | [] => clip (Config.oracleRead s.history (interruptRead timeout s))

/-- `TxRead` as an event: the call is recorded with its answer, which is used up (R95; log 8). -/
def afterRead (timeout : Nat) (s : State) : State :=
  { s with
    history := s.history ++ [.inp (interruptRead timeout s) (nextReadAnswer timeout s)]
    readScript := s.readScript.tail }

/-- Sending the frame in OBUF: a failed or short write raises TRANSPORT_ERROR with aux 1 (R204, and
`send()` of R380). `error` is the state after the raise. -/
def send (site : RaiseSite) (s : State) : Except State State :=
  if nextWriteAnswer s = .ok s.olen.bytes then .ok (afterWrite s)
  else .error (raise site .transportError 1 (afterWrite s))

/-- Reading one frame into IBUF: a failed read raises TRANSPORT_ERROR with aux 2 and leaves IBUF and ILEN
alone (R205, and `recv()` of R380). -/
def recv (site : RaiseSite) (timeout : Nat) (s : State) : Except State State :=
  match nextReadAnswer timeout s with
  | .ok bytes => .ok (storeInbound bytes (afterRead timeout s))
  | .fail => .error (raise site .transportError 2 (afterRead timeout s))

end Sys2Proof.Machine
end

