-- ==== Sys2Proof/Machine/Operands.lean ====
section
/-! DEFINITION. Operand forms and their checks (30_encoding.md R151, 60_exceptions.md R506), the values the
source fixes, and the frames the block builds itself (R132). -/

namespace Sys2Proof.Machine

/-- SES_DEVIDX, "hardwired to 0xFF", read-only (R35; log 20). -/
def sesDevidx : Byte := 0xFF

/-- P_WRITE_ID_BASE, the write-id of pass 1 (R9: 0x1C). -/
def writeIdBase : Byte := 0x1C

/-- The low nibble of an fn or sw operand whose high nibble is 0 (R151). -/
def lowNibble (b : Byte) : Nibble := b.extractLsb' 0 4

/-- The function ids outside the source's set: {9, 0xA, 0xD, 0xE, 0xF} (R125). -/
def reservedFunction (fn : Byte) : Bool := [0x9, 0xA, 0xD, 0xE, 0xF].contains fn.toNat

/-- The checks of ENC_SHORT and ENC_LONG in the order of R513. -/
def encoderChecks (fn sw : Byte) : List Check :=
  [check (0x0F < fn.toNat) .badOperand 3,
   check (0x0F < sw.toNat) .badOperand 4,
   check (reservedFunction fn) .illegalFunction fn,
   check (sw = 0) .illegalSwid 0]

/-- The checks of SESSION_OPEN in the order of R513. -/
def sessionOpenChecks (swid : Byte) (s : State) : List Check :=
  [check s.ses.isOpen .badOperand 0,
   check (0x0F < swid.toNat) .badOperand 4,
   check (swid = 0) .illegalSwid 0]

/-- The line operand is 0..15 (R151, R506). -/
def lineCheck (line : Byte) : Check := check (15 < line.toNat) .badOperand 1

/-- The checks of BLK_BUILD (R342): poll in 1..4, profile in 1..9. -/
def buildChecks (poll profile : Byte) : List Check :=
  [check (poll.toNat < 1 || 4 < poll.toNat) .badOperand 1,
   check (profile.toNat < 1 || 9 < profile.toNat) .badOperand 12]

/-- tsel selects the timeout: 0 P_TIMEOUT, 1 P_CLEAR_TIMEOUT (R205). -/
def timeoutOf (tsel : Byte) (p : Params) : Nat := if tsel = 0 then p.timeout else p.clearTimeout

/-- P_BEGIN_PAYLOAD(p): the given one, else the open one (R9; log 6). -/
def beginPayload (p : Params) (profile : Byte) : Payload :=
  match p.beginTable.lookup profile with
  | some payload => payload
  | none => Config.beginPayload profile

/-- The template byte at an offset (R165). -/
def templateByte (p : Params) (o : Nat) : Byte := Memory.read p.template o

/-- The status query's frame (R132). -/
def statusFrame (s : State) : List Byte :=
  shortFrame sesDevidx s.par.featProfile 0x4 s.ses.swid s.par.statusA s.par.statusB s.par.statusC

/-- The Begin frame (R132). -/
def beginFrame (s : State) : List Byte :=
  longFrame sesDevidx s.par.featProfile 0x6 s.ses.swid (beginPayload s.par s.seq.tgt)

/-- The Write frame of the line SEQ_LINE (R132). -/
def lineFrame (s : State) : List Byte :=
  longFrame sesDevidx s.par.featProfile 0x7 s.ses.swid (s.blk.linePayload s.seq.line.toNat)

/-- The End frame (R132). -/
def endFrame (s : State) : List Byte :=
  shortFrame sesDevidx s.par.featProfile 0x8 s.ses.swid s.par.endA s.par.endB s.par.endC

end Sys2Proof.Machine
end

