-- ==== Sys2Proof/Machine/Flags.lean ====
section
/-! DEFINITION. The block's flags: the decoded status (40_frame_codec.md R202, R43), the class of an inbound
frame (R129, R203) and LINE_VALID (R42, R505); and the result bytes made of them. -/

namespace Sys2Proof.Machine

/-- A bit as a result byte. -/
def flagByte (b : Bool) : Byte := if b then 1 else 0

/-- The three result bytes of a status (R202, R385). -/
def Status.bytes (st : Status) : List Byte := [flagByte st.valid, st.err, st.prof]

/-- decode_status: valid only when 20 bytes were read, else the sentinel (R202). -/
def decodedStatus (s : State) : Status :=
  if s.ilen.val = 20 then ⟨true, s.ibuf[4], s.ibuf[5]⟩ else Status.zero

/-- The End or query status reports a non-zero error code (R385, R514). -/
def Status.rejected (st : Status) : Bool := st.valid && st.err != 0

/-- DEVICE_REJECTED or OK (R385). -/
def Status.resultCode (st : Status) : ResultCode := if st.rejected then .deviceRejected else .ok

/-- The response classes (R129). -/
inductive FrameClass where
  | empty
  | runt
  | discard
  | candidate
  deriving DecidableEq, Repr

/-- The codes of the classes (R129). -/
def FrameClass.code : FrameClass → Byte
  | .empty => 0
  | .runt => 1
  | .discard => 2
  | .candidate => 3

/-- The class of the frame in IBUF (R203). -/
def frameClass (s : State) : FrameClass :=
  if s.ilen.val = 0 then .empty
  else if s.ilen.val ≤ 3 then .runt
  else if s.ibuf[3] = 0 then .discard
  else .candidate

/-- LINE_VALID with the bit of a line set (R340). -/
def markLine (valid : BitVec 16) (line : Nat) : BitVec 16 := valid ||| (1#16 <<< line)

/-- The lowest line whose LINE_VALID bit is 0 (R505). -/
def lowestUnwritten (valid : BitVec 16) : Option Nat := (List.range 16).find? fun k => !valid.getLsbD k

/-- BLOCK_INCOMPLETE unless all 16 lines are written; aux is the lowest line that is not (R505). -/
def completeCheck (s : State) : Check :=
  match lowestUnwritten s.lineValid with
  | some k => some (.blockIncomplete, BitVec.ofNat 8 k)
  | none => none

/-- BLOCK_INCOMPLETE unless the line is written (R341). -/
def lineWrittenCheck (line : Byte) (s : State) : Check :=
  check (!s.lineValid.getLsbD line.toNat) .blockIncomplete line

end Sys2Proof.Machine
end

