-- ==== Sys2Proof/Machine/Block.lean ====
section
/-! DEFINITION. The block buffer commands: BLK_WRITE, BLK_READ, BLK_BUILD (43_record_sequencer.md R340 to
R342; the layout is 30_encoding.md R160 to R165). -/

namespace Sys2Proof.Machine

/-- BLK_WRITE (R340): no value is checked. -/
def execBlkWrite (line : Byte) (data : Payload) (s : State) : Outcome :=
  guarded [lineCheck line] s fun s =>
    .next (finish .ok []
      { s with
        blk := s.blk.writeBytes (16 * line.toNat) data.toList
        lineValid := markLine s.lineValid line.toNat })

/-- BLK_READ (R341). -/
def execBlkRead (line : Byte) (s : State) : Outcome :=
  guarded [lineCheck line, lineWrittenCheck line s] s fun s => .next (finish .ok (s.blk.line line.toNat) s)

/-- The ASCII bytes of "Profile" and the profile's digit (R162). -/
def profileName (profile : Byte) : List Byte := [0x50, 0x72, 0x6F, 0x66, 0x69, 0x6C, 0x65, 0x30 + profile]

/-- Strict UTF-16LE over ASCII: each character c is the pair `c, 0x00` (R85). -/
def utf16 (text : List Byte) : List Byte := text.flatMap fun c => [c, 0x00]

/-- Line 0 (R160): the polling code, the markers 0x01 and 0x00, five DPI values low byte first, the fill. -/
def lineZero (poll : Byte) (dpi : List Half) : List Byte :=
  poll :: 0x01 :: 0x00 :: dpi.flatMap (fun v => [loByte v, hiByte v]) ++ [0xFF, 0xFF, 0xFF]

/-- The block BLK_BUILD makes: the template, then line 0, the name in line 10, line 11 zero (R342). -/
def builtBlock (p : Params) (m : Memory) (poll : Byte) (dpi : List Half) (profile : Byte) : Memory :=
  let base := m.writeBytes 0 ((List.range 256).map (templateByte p))
  let withLineZero := base.writeBytes 0 (lineZero poll dpi)
  let withName := withLineZero.writeBytes 160 (utf16 (profileName profile))
  withName.writeBytes 176 (List.replicate 16 0x00)

/-- BLK_BUILD (R342). -/
def execBlkBuild (poll : Byte) (dpi0 dpi1 dpi2 dpi3 dpi4 : Half) (profile : Byte) (s : State) : Outcome :=
  guarded (buildChecks poll profile) s fun s =>
    .next (finish .ok []
      { s with
        blk := builtBlock s.par s.blk poll [dpi0, dpi1, dpi2, dpi3, dpi4] profile
        lineValid := 0xFFFF })

end Sys2Proof.Machine
end

