-- ==== Sys2Proof/Machine/Codec.lean ====
section
/-! DEFINITION. The frame codec: ENC_SHORT, ENC_LONG, DEC_STATUS, CLASSIFY (40_frame_codec.md R200 to
R203). None of them makes a transport call or reads the session registers (R206). -/

namespace Sys2Proof.Machine

/-- Building a short frame in OBUF (R200). -/
def buildShort (dev feat fn sw a b c : Byte) (s : State) : Outcome :=
  guarded (encoderChecks fn sw) s fun s =>
    .next (finish .ok [] (loadFrame .short (shortFrame dev feat (lowNibble fn) (lowNibble sw) a b c) s))

/-- Building a long frame in OBUF (R201). -/
def buildLong (dev feat fn sw : Byte) (payload : Payload) (s : State) : Outcome :=
  guarded (encoderChecks fn sw) s fun s =>
    .next (finish .ok [] (loadFrame .long (longFrame dev feat (lowNibble fn) (lowNibble sw) payload) s))

/-- ENC_SHORT (R200). -/
def execEncShort (dev feat fn sw a b c : Byte) (s : State) : Outcome := buildShort dev feat fn sw a b c s

/-- ENC_LONG (R201). -/
def execEncLong (dev feat fn sw : Byte) (payload : Payload) (s : State) : Outcome :=
  buildLong dev feat fn sw payload s

/-- DEC_STATUS (R202): byte 3, the report id and the session are not looked at. -/
def execDecStatus (s : State) : Outcome :=
  .next (finish .ok (decodedStatus s).bytes { s with st := decodedStatus s })

/-- CLASSIFY (R203). -/
def execClassify (s : State) : Outcome := .next (finish .ok [(frameClass s).code] s)

end Sys2Proof.Machine
end

