-- ==== Sys2Proof/Machine/Checksum.lean ====
section
/-! DEFINITION. The checksum engine: the byte step, the stream and the four CRC commands
(42_checksum.md R299 to R303). -/

namespace Sys2Proof.Machine

/-- One of the eight iterations of `crc_step` (R299). -/
def crcBit (c : Half) : Half := if c.getLsbD 15 then (c <<< 1) ^^^ 0x1021 else c <<< 1

/-- `n` iterations. -/
def crcBits : Nat → Half → Half
  | 0, c => c
  | n + 1, c => crcBits n (crcBit c)

/-- `crc_step(c, b)` (R299). -/
def crcStep (c : Half) (b : Byte) : Half := crcBits 8 (c ^^^ (b.setWidth 16 <<< 8))

/-- The bytes of a stream folded into a running checksum, in order (R299). -/
def crcFold (c : Half) (bytes : List Byte) : Half := bytes.foldl crcStep c

/-- `CRC16(b_0 .. b_{m-1})` (R299). -/
def crc16 (bytes : List Byte) : Half := crcFold 0xFFFF bytes

/-- The checksum of `BLK[0..253]`, the trailer excluded (R302). -/
def blockChecksum (m : Memory) : Half := crc16 (m.readBytes 0 254)

/-- The trailer, big-endian: the high byte at 254, the low byte at 255 (R84, R302). -/
def writeTrailer (m : Memory) (c : Half) : Memory := (m.write 254 (hiByte c)).write 255 (loByte c)

/-- A checksum put into CRC and into the trailer. -/
def writeSeal (c : Half) (s : State) : State := { s with crc := c, blk := writeTrailer s.blk c }

/-- The checksum of the block computed into CRC and written to the trailer (R302, and PREP of R380). -/
def sealBlock (s : State) : State := writeSeal (blockChecksum s.blk) s

/-- A 16-bit result, big-endian (R86). -/
def halfBytes (c : Half) : List Byte := [hiByte c, loByte c]

/-- CRC_INIT (R300). -/
def execCrcInit (s : State) : Outcome := .next (finish .ok [] { s with crc := 0xFFFF })

/-- CRC_UPDATE (R301). -/
def execCrcUpdate (b : Byte) (s : State) : Outcome := .next (finish .ok [] { s with crc := crcStep s.crc b })

/-- CRC_BLOCK (R302). -/
def execCrcBlock (s : State) : Outcome :=
  guarded [completeCheck s] s fun s => .next (finish .ok (halfBytes (blockChecksum s.blk)) (sealBlock s))

/-- CRC_READ (R303). -/
def execCrcRead (s : State) : Outcome := .next (finish .ok (halfBytes s.crc) s)

end Sys2Proof.Machine
end

