-- ==== Sys2Proof/Machine/Sequencer.lean ====
section
/-! DEFINITION. The record sequencer: the steps of 43_record_sequencer.md R380, completion (R385), and the
commands SEQ_QUERY_STATUS, SEQ_RECORD_PASS and SEQ_WRITE_CONFIG (R382 to R384). -/

namespace Sys2Proof.Machine

/-- `SEQ_PHASE <- phase`. -/
def toPhase (phase : SeqPhase) (s : State) : State := { s with seq.phase := phase }

/-! ## Completion (R385) -/

/-- The sequencer registers both completions return to NONE, IDLE and 0 (R385). -/
def retire (s : State) : State := { s with seq.op := .none, seq.phase := .idle, seq.pass := 0 }

/-- `complete_query()` (R385): the query left ST_VALID = 1. -/
def completeQuery (s : State) : State :=
  retire (finish (if s.st.err != 0 then .deviceRejected else .ok) [1, s.st.err, s.st.prof] s)

/-- The End status the result is taken from: pass 1's if there is one pass, else pass 2's (R385). -/
def lastStatus (s : State) : Status := if s.seq.passes = 1 then s.seq.endSt1 else s.seq.endSt2

/-- `complete_record()` (R385). -/
def completeRecord (s : State) : State :=
  retire (finish (lastStatus s).resultCode (s.seq.endSt1.bytes ++ s.seq.endSt2.bytes) s)

/-! ## The steps (R380) -/

/-- Q_TX's work once the frame is in OBUF: SEQ_DISC cleared, the frame sent, Q_RX next. -/
def sendQuery (s : State) : State :=
  match send .step { s with seq.disc := 0 } with
  | .ok t => toPhase .qRx t
  | .error t => t

/-- Q_TX: status query, send. -/
def stepQTx (s : State) : State := sendQuery (loadFrame .short (statusFrame s) s)

/-- The profile poll's use of a status (R380, Q_RX with SEQ_OP = WRITE). -/
def pollStatus (s : State) : State :=
  let t : State := { s with seq.polls := s.seq.polls + 1 }
  if t.st.prof != 0 then { t with seq.tgt := t.st.prof, seq.pass := 1, seq.phase := .prep }
  else if t.par.maxPolls ≤ t.seq.polls then
    raise .step .profilePollExhausted (BitVec.ofNat 8 t.seq.polls) t
  else toPhase .qTx t

/-- A discard frame: counted, and one too many raises (R380, Q_RX). -/
def countDiscard (s : State) : State :=
  let t : State := { s with seq.disc := s.seq.disc + 1 }
  if t.par.maxDiscard < t.seq.disc then raise .step .protocolMismatch 2 t else t

/-- A candidate frame: a status if it has 20 bytes (R380, Q_RX). -/
def takeCandidate (s : State) : State :=
  if s.ilen.val < 20 then raise .step .protocolMismatch 3 s
  else
    let t : State := { s with st := ⟨true, s.ibuf[4], s.ibuf[5]⟩ }
    if t.seq.op = .query then completeQuery t else pollStatus t

/-- Q_RX: status query, receive, with discards. -/
def stepQRx (s : State) : State :=
  match recv .step s.par.timeout s with
  | .error t => t
  | .ok t =>
    match frameClass t with
    | .empty => raise .step .protocolMismatch 0 t
    | .runt => raise .step .protocolMismatch 1 t
    | .discard => countDiscard t
    | .candidate => takeCandidate t

/-- The write-id of the pass put into the block, when the write-id mode is on (R380, PREP; R50). -/
def insertWriteId (s : State) : State :=
  if s.seq.widmode then
    let wid := s.seq.widbase + s.seq.pass.setWidth 8 - 1
    { s with seq.wid := wid, blk := s.blk.write s.par.widPos wid }
  else s

/-- PREP's last part: the first line is next, B_TX follows. -/
def beginPass (s : State) : State := { s with seq.line := 0, seq.phase := .bTx }

/-- PREP: prepare a pass; no transport call. -/
def stepPrep (s : State) : State := beginPass (sealBlock (insertWriteId s))

/-- B_TX: Begin, send. -/
def stepBTx (s : State) : State :=
  match send .step (loadFrame .long (beginFrame s) s) with
  | .ok t => toPhase .bRx t
  | .error t => t

/-- A receive step of a pass: one response, which must not be empty, and then `use` (R380, B_RX, L_RX,
E_RX; R501 aux 3). -/
def paced (use : State → State) (s : State) : State :=
  match recv .step s.par.timeout s with
  | .error t => t
  | .ok t => if t.ilen.val = 0 then raise .step .transportError 3 t else use t

/-- B_RX: Begin, one response, not interpreted. -/
def stepBRx (s : State) : State := paced (toPhase .lTx) s

/-- L_TX: Write, send the line SEQ_LINE. -/
def stepLTx (s : State) : State :=
  match send .step (loadFrame .long (lineFrame s) s) with
  | .ok t => toPhase .lRx t
  | .error t => t

/-- L_RX after its response: the next line, or the End. -/
def nextLine (s : State) : State :=
  let line := s.seq.line + 1
  { s with seq.line := line, seq.phase := if line = 16 then .eTx else .lTx }

/-- L_RX: Write, one response, discarded. -/
def stepLRx (s : State) : State := paced nextLine s

/-- E_TX: End, send; three responses are then due. -/
def stepETx (s : State) : State :=
  match send .step (loadFrame .short (endFrame s) s) with
  | .ok t => { t with seq.rxleft := 3, seq.phase := .eRx }
  | .error t => t

/-- The End status of the pass in progress: END_ST1 in pass 1, else END_ST2 (R380, E_RX). -/
def recordEndStatus (st : Status) (s : State) : State :=
  if s.seq.pass = 1 then { s with seq.endSt1 := st } else { s with seq.endSt2 := st }

/-- The first of the three End responses is a status (R380, E_RX). -/
def takeEndStatus (s : State) : State :=
  if s.seq.rxleft = 3 then recordEndStatus (decodedStatus s) s else s

/-- E_RX after its response: count it, and after the third go to the next pass or complete. -/
def nextResponse (s : State) : State :=
  let t := takeEndStatus s
  let u : State := { t with seq.rxleft := t.seq.rxleft - 1 }
  if u.seq.rxleft = 0 then
    if u.seq.pass < u.seq.passes then { u with seq.pass := u.seq.pass + 1, seq.phase := .prep }
    else completeRecord u
  else u

/-- E_RX: End, three responses, the first a status. -/
def stepERx (s : State) : State := paced nextResponse s

/-- `step()` of R380. IDLE has no step (R390). -/
def seqStep (s : State) : State :=
  match s.seq.phase with
  | .idle => s
  | .qTx => stepQTx s
  | .qRx => stepQRx s
  | .prep => stepPrep s
  | .bTx => stepBTx s
  | .bRx => stepBRx s
  | .lTx => stepLTx s
  | .lRx => stepLRx s
  | .eTx => stepETx s
  | .eRx => stepERx s

/-- "runs `step()` until `SEQ_PHASE = IDLE`" (R380), at most `fuel` steps. -/
def seqRun : Nat → State → Outcome
  | 0, s => if s.seq.phase = .idle then .next s else .fault .sequencerOverrun
  | fuel + 1, s => if s.seq.phase = .idle then .next s else seqRun fuel (seqStep s)

/-- The step bound of R394: `P_MAX_PROFILE_POLLS × (P_MAX_DISCARD + 2) + 2 × 39` (log 4). -/
def seqBound (p : Params) : Nat := p.maxPolls * (p.maxDiscard + 2) + 2 * 39

/-- A sequencer command once its start registers are set (R380). -/
def runSequencer (s : State) : Outcome := seqRun (seqBound s.par) s

/-! ## The commands -/

/-- The start of a status query (R382). -/
def startQuery (s : State) : State := { s with seq.op := .query, seq.pass := 0, seq.phase := .qTx }

/-- SEQ_QUERY_STATUS (R382). -/
def execSeqQueryStatus (s : State) : Outcome :=
  guarded (transportChecks s) s fun s => runSequencer (startQuery s)

/-- The start of a record pass (R383). -/
def startPass (profile widmode wid : Byte) (s : State) : State :=
  { s with
    seq.op := .pass
    seq.passes := 1
    seq.pass := 1
    seq.tgt := profile
    seq.widmode := widmode = 1
    seq.widbase := wid
    seq.endSt1 := Status.zero
    seq.endSt2 := Status.zero
    seq.phase := .prep }

/-- SEQ_RECORD_PASS (R383): profile 0 is sent literally. -/
def execSeqRecordPass (profile widmode wid : Byte) (s : State) : Outcome :=
  guarded (transportChecks s ++ [check (1 < widmode.toNat) .badOperand 2, completeCheck s]) s fun s =>
    runSequencer (startPass profile widmode wid s)

/-- The start of a configuration write (R384): profile 0 polls first. -/
def startWrite (profile : Byte) (s : State) : State :=
  { s with
    seq.op := .write
    seq.passes := 2
    seq.widmode := true
    seq.widbase := writeIdBase
    seq.polls := 0
    seq.endSt1 := Status.zero
    seq.endSt2 := Status.zero
    seq.tgt := profile
    seq.pass := if profile = 0 then 0 else 1
    seq.phase := if profile = 0 then .qTx else .prep }

/-- SEQ_WRITE_CONFIG (R384): the two-pass commit. -/
def execSeqWriteConfig (profile : Byte) (s : State) : Outcome :=
  guarded (transportChecks s ++ [completeCheck s]) s fun s => runSequencer (startWrite profile s)

end Sys2Proof.Machine
end

