-- ==== Sys2Proof/Machine/Transport.lean ====
section
/-! DEFINITION. The transport commands: XFER_SEND and XFER_RECV (40_frame_codec.md R204, R205), and the
reads that follow a frame in a wire function (41_wire_functions.md; R441). -/

namespace Sys2Proof.Machine

/-- Sending the frame in OBUF as a command of its own (R204). -/
def transmit (s : State) : Outcome :=
  guarded (transportChecks s ++ [check (s.olen = .empty) .badOperand 0]) s fun s =>
    match send .outside s with
    | .ok t => .next (finish .ok [] t)
    | .error t => .next t

/-- Reading one frame as a command of its own (R205): a read of 0 bytes is a normal result. -/
def receive (tsel : Byte) (s : State) : Outcome :=
  guarded (transportChecks s ++ [check (1 < tsel.toNat) .badOperand 1]) s fun s =>
    match recv .outside (timeoutOf tsel s.par) s with
    | .ok t => .next (finish .ok [BitVec.ofNat 8 t.ilen.val] t)
    | .error t => .next t

/-- XFER_SEND (R204). -/
def execXferSend (s : State) : Outcome := transmit s

/-- XFER_RECV (R205). -/
def execXferRecv (tsel : Byte) (s : State) : Outcome := receive tsel s

/-- `n` reads, each checked as R441 checks them: a result other than OK, or an empty read, ends the
sequence there. -/
def readResponses : Nat → State → Outcome
  | 0, s => .next s
  | n + 1, s => andThen (receive 0 s) fun t => if t.ilen.val = 0 then .next t else readResponses n t

/-- One read of a response that must not be empty: an empty one raises TRANSPORT_ERROR with aux 3 (R257 to
R259, R501; log 21). -/
def requireResponse (s : State) : Outcome :=
  andThen (receive 0 s) fun t => .next (if t.ilen.val = 0 then raise .outside .transportError 3 t else t)

end Sys2Proof.Machine
end

