-- ==== Sys2Proof/Machine/Wire.lean ====
section
/-! DEFINITION. The wire functions, one meaning for each frame of 41_wire_functions.md R250 to R261. As an
instruction a frame is what its rule's pseudocode says the block does: ENC_SHORT or ENC_LONG builds it,
XFER_SEND sends it, and the reads of that rule follow (log 2). A frame in a format the rule does not
give reads has no response rule (R250 and the head of 41_wire_functions.md; log 22). -/

namespace Sys2Proof.Machine

/-- A function id or software id as an encoder operand. -/
def nibbleOperand (n : Nibble) : Byte := n.setWidth 8

/-- A short frame built and sent: ENC_SHORT, then XFER_SEND (R250). -/
def emitShort (fn : Nibble) (dev feat : Byte) (sw : Nibble) (a b c : Byte) (s : State) : Outcome :=
  andThen (buildShort dev feat (nibbleOperand fn) (nibbleOperand sw) a b c s) transmit

/-- A long frame built and sent: ENC_LONG, then XFER_SEND (R250). -/
def emitLong (fn : Nibble) (dev feat : Byte) (sw : Nibble) (payload : Payload) (s : State) : Outcome :=
  andThen (buildLong dev feat (nibbleOperand fn) (nibbleOperand sw) payload s) transmit

/-- ROOT, short (R250). -/
def execRootShort (dev feat : Byte) (sw : Nibble) (a b c : Byte) (s : State) : Outcome :=
  emitShort 0x0 dev feat sw a b c s

/-- ROOT, long (R250). -/
def execRootLong (dev feat : Byte) (sw : Nibble) (payload : Payload) (s : State) : Outcome :=
  emitLong 0x0 dev feat sw payload s

/-- GET_FEATURE, short (R251). -/
def execGetFeatureShort (dev feat : Byte) (sw : Nibble) (a b c : Byte) (s : State) : Outcome :=
  emitShort 0x1 dev feat sw a b c s

/-- GET_FEATURE, long (R251). -/
def execGetFeatureLong (dev feat : Byte) (sw : Nibble) (payload : Payload) (s : State) : Outcome :=
  emitLong 0x1 dev feat sw payload s

/-- CONN_CHECK, short (R252). -/
def execConnCheckShort (dev feat : Byte) (sw : Nibble) (a b c : Byte) (s : State) : Outcome :=
  emitShort 0x2 dev feat sw a b c s

/-- CONN_CHECK, long (R252). -/
def execConnCheckLong (dev feat : Byte) (sw : Nibble) (payload : Payload) (s : State) : Outcome :=
  emitLong 0x2 dev feat sw payload s

/-- PROFILE_SWITCH, short (R253): the frame, then three reads. DESIGN CHOICE: they follow whatever the feature
index (log 33); an empty read ends them (log 30). -/
def execProfileSwitchShort (dev feat : Byte) (sw : Nibble) (a b c : Byte) (s : State) : Outcome :=
  andThen (emitShort 0x3 dev feat sw a b c s) (readResponses 3)

/-- SET_COLOR, long (R254): the frame, then P_LED_RESPONSES reads. DESIGN CHOICE: they follow whatever the
feature index (log 33); an empty read ends them (log 30). -/
def execSetColorLong (dev feat : Byte) (sw : Nibble) (payload : Payload) (s : State) : Outcome :=
  andThen (emitLong 0x3 dev feat sw payload s) fun t => readResponses t.par.ledResponses t

/-- STATUS, short (R255): the status query of R381 with this frame in the place of the block's own. The
encoder's checks come first, then the session's (log 19). DEDUCED: it ends as SEQ_QUERY_STATUS does, with the three
status bytes and DEVICE_REJECTED on an error code, which R514 and R255 do not say of a frame (log 34). -/
def execStatusShort (dev feat : Byte) (sw : Nibble) (a b c : Byte) (s : State) : Outcome :=
  andThen (buildShort dev feat 0x4 (nibbleOperand sw) a b c s) fun t =>
    guarded (transportChecks t) t fun t => runSequencer (sendQuery (startQuery t))

/-- STATUS, long (R255): the source's query is the short frame; this one has no response rule. -/
def execStatusLong (dev feat : Byte) (sw : Nibble) (payload : Payload) (s : State) : Outcome :=
  emitLong 0x4 dev feat sw payload s

/-- READ_RECORD, short (R256). -/
def execReadRecordShort (dev feat : Byte) (sw : Nibble) (a b c : Byte) (s : State) : Outcome :=
  emitShort 0x5 dev feat sw a b c s

/-- READ_RECORD, long (R256). -/
def execReadRecordLong (dev feat : Byte) (sw : Nibble) (payload : Payload) (s : State) : Outcome :=
  emitLong 0x5 dev feat sw payload s

/-- START_RECORD, short (R257): not the source's format; no response rule. -/
def execStartRecordShort (dev feat : Byte) (sw : Nibble) (a b c : Byte) (s : State) : Outcome :=
  emitShort 0x6 dev feat sw a b c s

/-- START_RECORD, long (R257): the frame, then one response that must not be empty. -/
def execStartRecordLong (dev feat : Byte) (sw : Nibble) (payload : Payload) (s : State) : Outcome :=
  andThen (emitLong 0x6 dev feat sw payload s) requireResponse

/-- WRITE_RECORD, short (R258): not the source's format; no response rule. -/
def execWriteRecordShort (dev feat : Byte) (sw : Nibble) (a b c : Byte) (s : State) : Outcome :=
  emitShort 0x7 dev feat sw a b c s

/-- WRITE_RECORD, long (R258): the frame, then one response that must not be empty. -/
def execWriteRecordLong (dev feat : Byte) (sw : Nibble) (payload : Payload) (s : State) : Outcome :=
  andThen (emitLong 0x7 dev feat sw payload s) requireResponse

/-- END_RECORD's three responses: the first is decoded as a status into END_ST1 or END_ST2, and makes the
result DEVICE_REJECTED if it reports an error (R259; log 18). -/
def endResponses (s : State) : Outcome :=
  andThen (requireResponse s) fun first =>
    andThen (requireResponse (recordEndStatus (decodedStatus first) first)) fun second =>
      andThen (requireResponse second) fun third =>
        .next (finish (decodedStatus first).resultCode (decodedStatus first).bytes third)

/-- END_RECORD, short (R259). -/
def execEndRecordShort (dev feat : Byte) (sw : Nibble) (a b c : Byte) (s : State) : Outcome :=
  andThen (emitShort 0x8 dev feat sw a b c s) endResponses

/-- END_RECORD, long (R259): not the source's format; no response rule. -/
def execEndRecordLong (dev feat : Byte) (sw : Nibble) (payload : Payload) (s : State) : Outcome :=
  emitLong 0x8 dev feat sw payload s

/-- ERR_B, short (R260). -/
def execErrBShort (dev feat : Byte) (sw : Nibble) (a b c : Byte) (s : State) : Outcome :=
  emitShort 0xB dev feat sw a b c s

/-- ERR_B, long (R260). -/
def execErrBLong (dev feat : Byte) (sw : Nibble) (payload : Payload) (s : State) : Outcome :=
  emitLong 0xB dev feat sw payload s

/-- ERR_C, short (R261). -/
def execErrCShort (dev feat : Byte) (sw : Nibble) (a b c : Byte) (s : State) : Outcome :=
  emitShort 0xC dev feat sw a b c s

/-- ERR_C, long (R261). -/
def execErrCLong (dev feat : Byte) (sw : Nibble) (payload : Payload) (s : State) : Outcome :=
  emitLong 0xC dev feat sw payload s

end Sys2Proof.Machine
end

