-- ==== Sys2Proof/Machine/HostPort.lean ====
section
/-! DEFINITION. The host command port: the host's next statement, its control flow (30_encoding.md R154),
and what the block answers to bytes that are no command (R152, 60_exceptions.md R507, R513). -/

namespace Sys2Proof.Machine

/-- The statement at the host's position, if the program has one there. -/
def fetch (s : State) : Option HostStmt := s.prog[s.pos]?

/-- Whether a HOST_IF condition holds: it reads only the result registers (R154). A byte beyond RES_DLEN
equals nothing (log 26). -/
def condHolds (s : State) : HostCond → Bool
  | .codeIn codes => codes.contains s.res.code.code
  | .dataIs i v => s.res.data[i]? == some v
  | .not c => !condHolds s c
  | .or c d => condHolds s c || condHolds s d

/-- HOST_IF: to the label if the condition holds, else on to the next statement. -/
def branchTo (cond : HostCond) (target : Nat) (s : State) : State :=
  { s with pos := if condHolds s cond then target else s.pos + 1 }

/-- HOST_GOTO. -/
def jumpTo (target : Nat) (s : State) : State := { s with pos := target }

/-- Bytes the decoder rejects: ILLEGAL_COMMAND with the code (0 for an empty command), BAD_OPERAND with
0xFF for a wrong length (R506, R507, R513), ILLEGAL_FUNCTION for a frame with a reserved function id
(R503), and no meaning for bytes that are no frame (log 23). -/
def reject (e : DecodeError) (s : State) : Outcome :=
  match e with
  | .emptyCommand => .next (raise .outside .illegalCommand 0 s)
  | .illegalCommand code => .next (raise .outside .illegalCommand code s)
  | .badLength _ => .next (raise .outside .badOperand 0xFF s)
  | .reservedFunction fn => .next (raise .outside .illegalFunction (nibbleOperand fn) s)
  | .notAFrame => .refused .malformedFrame

/-- The host goes on to its next statement when the block's command has ended (R7, R92). -/
def advance (s : State) (answer : Outcome) : Outcome :=
  match answer with
  | .next t => .next { t with pos := s.pos + 1 }
  | .fault f => .fault f
  | .refused r => .refused r

/-- A program with a statement put at a position: what stood there is replaced, what lacked before it is
filled with HOST_STOP. -/
def placeStmt (prog : List HostStmt) (pos : Nat) (stmt : HostStmt) : List HostStmt :=
  prog.take pos ++ List.replicate (pos - prog.length) .stop ++ stmt :: prog.drop (pos + 1)

/-- The statement that issues an instruction's bytes in their space. -/
def stmtOf (space : Space) (bytes : List Byte) : HostStmt :=
  match space with
  | .hostCommand => .command bytes
  | .wireFrame => .frame bytes

/-- The statement of an instruction. -/
def stmtOfInstr (i : Instr) : HostStmt := stmtOf i.space (encode i)

end Sys2Proof.Machine
end

