-- ==== Sys2Proof/Machine/Session.lean ====
section
/-! DEFINITION. The session commands: SESSION_OPEN and SESSION_CLOSE (44_session_and_host_ops.md R420,
R421). -/

namespace Sys2Proof.Machine

/-- SESSION_OPEN (R420). No transport call is made. -/
def execSessionOpen (ifnum epIn epOut swid : Byte) (s : State) : Outcome :=
  guarded (sessionOpenChecks swid s) s fun s =>
    .next (finish .ok [] { s with ses := ⟨true, ifnum, epIn, epOut, lowNibble swid, false⟩ })

/-- SESSION_CLOSE (R421), legal in every state. The other session registers "become unspecified": free
values (log 12). -/
def execSessionClose (s : State) : Outcome :=
  .next (finish .ok []
    { s with
      ses :=
        { isOpen := false
          ifnum  := Config.freeByte s.free
          epIn   := Config.freeByte (s.free + 1)
          epOut  := Config.freeByte (s.free + 2)
          swid   := lowNibble (Config.freeByte (s.free + 3))
          fatal  := false }
      free := s.free + 4 })

end Sys2Proof.Machine
end

