-- ==== Sys2Proof/Machine/Dispatch.lean ====
section
/-! DEFINITION. The dispatch: one arm for each constructor of Instr, each one call of its meaning. -/

namespace Sys2Proof.Machine

def exec (i : Instr) (s : State) : Host.Outcome State Fault Refusal :=
  match i with
  | .sessionOpen ifnum epIn epOut swid => Sys2Proof.Machine.execSessionOpen ifnum epIn epOut swid s
  | .sessionClose => Sys2Proof.Machine.execSessionClose s
  | .encShort dev feat fn sw a b c => Sys2Proof.Machine.execEncShort dev feat fn sw a b c s
  | .encLong dev feat fn sw payload => Sys2Proof.Machine.execEncLong dev feat fn sw payload s
  | .decStatus => Sys2Proof.Machine.execDecStatus s
  | .classify => Sys2Proof.Machine.execClassify s
  | .xferSend => Sys2Proof.Machine.execXferSend s
  | .xferRecv tsel => Sys2Proof.Machine.execXferRecv tsel s
  | .crcInit => Sys2Proof.Machine.execCrcInit s
  | .crcUpdate b => Sys2Proof.Machine.execCrcUpdate b s
  | .crcBlock => Sys2Proof.Machine.execCrcBlock s
  | .crcRead => Sys2Proof.Machine.execCrcRead s
  | .blkWrite line data => Sys2Proof.Machine.execBlkWrite line data s
  | .blkRead line => Sys2Proof.Machine.execBlkRead line s
  | .blkBuild poll dpi0 dpi1 dpi2 dpi3 dpi4 profile => Sys2Proof.Machine.execBlkBuild poll dpi0 dpi1 dpi2 dpi3 dpi4 profile s
  | .seqQueryStatus => Sys2Proof.Machine.execSeqQueryStatus s
  | .seqRecordPass profile widmode wid => Sys2Proof.Machine.execSeqRecordPass profile widmode wid s
  | .seqWriteConfig profile => Sys2Proof.Machine.execSeqWriteConfig profile s
  | .rootShort dev feat sw a b c => Sys2Proof.Machine.execRootShort dev feat sw a b c s
  | .rootLong dev feat sw payload => Sys2Proof.Machine.execRootLong dev feat sw payload s
  | .getFeatureShort dev feat sw a b c => Sys2Proof.Machine.execGetFeatureShort dev feat sw a b c s
  | .getFeatureLong dev feat sw payload => Sys2Proof.Machine.execGetFeatureLong dev feat sw payload s
  | .connCheckShort dev feat sw a b c => Sys2Proof.Machine.execConnCheckShort dev feat sw a b c s
  | .connCheckLong dev feat sw payload => Sys2Proof.Machine.execConnCheckLong dev feat sw payload s
  | .profileSwitchShort dev feat sw a b c => Sys2Proof.Machine.execProfileSwitchShort dev feat sw a b c s
  | .setColorLong dev feat sw payload => Sys2Proof.Machine.execSetColorLong dev feat sw payload s
  | .statusShort dev feat sw a b c => Sys2Proof.Machine.execStatusShort dev feat sw a b c s
  | .statusLong dev feat sw payload => Sys2Proof.Machine.execStatusLong dev feat sw payload s
  | .readRecordShort dev feat sw a b c => Sys2Proof.Machine.execReadRecordShort dev feat sw a b c s
  | .readRecordLong dev feat sw payload => Sys2Proof.Machine.execReadRecordLong dev feat sw payload s
  | .startRecordShort dev feat sw a b c => Sys2Proof.Machine.execStartRecordShort dev feat sw a b c s
  | .startRecordLong dev feat sw payload => Sys2Proof.Machine.execStartRecordLong dev feat sw payload s
  | .writeRecordShort dev feat sw a b c => Sys2Proof.Machine.execWriteRecordShort dev feat sw a b c s
  | .writeRecordLong dev feat sw payload => Sys2Proof.Machine.execWriteRecordLong dev feat sw payload s
  | .endRecordShort dev feat sw a b c => Sys2Proof.Machine.execEndRecordShort dev feat sw a b c s
  | .endRecordLong dev feat sw payload => Sys2Proof.Machine.execEndRecordLong dev feat sw payload s
  | .errBShort dev feat sw a b c => Sys2Proof.Machine.execErrBShort dev feat sw a b c s
  | .errBLong dev feat sw payload => Sys2Proof.Machine.execErrBLong dev feat sw payload s
  | .errCShort dev feat sw a b c => Sys2Proof.Machine.execErrCShort dev feat sw a b c s
  | .errCLong dev feat sw payload => Sys2Proof.Machine.execErrCLong dev feat sw payload s

end Sys2Proof.Machine
end

