-- ==== Sys2Proof/Machine/Step.lean ====
section
/-! DEFINITION. One step of the machine: the host's next statement, run whole (10_state.md R30,
20_memory.md R92). -/

namespace Sys2Proof.Machine

/-- A step. A command or a frame is decoded and executed, and the host goes on when it has ended.
HOST_IF and HOST_GOTO move the host. At HOST_STOP, and where the program has no statement, the block waits
(R601): the state stays. -/
def step (s : State) : Host.Outcome State Fault Refusal :=
  match fetch s with
  | none => .next s
  | some .stop => .next s
  | some (.goto target) => .next (jumpTo target s)
  | some (.branch cond target) => .next (branchTo cond target s)
  | some (.command bytes) =>
    match decodeCommand bytes with
    | .ok i => advance s (exec i s)
    | .error e => advance s (reject e s)
  | some (.frame bytes) =>
    match decodeFrame bytes with
    | .ok i => advance s (exec i s)
    | .error e => advance s (reject e s)

/-- The state with the instruction that a table word begins put where the host's next statement stands. -/
def State.withFetchWord (s : State) (nbits w : Nat) : State :=
  { s with
    prog := placeStmt s.prog s.pos (stmtOf (tableWordBytes nbits w).1 (tableWordBytes nbits w).2) }

end Sys2Proof.Machine
end

