-- ==== Sys2Proof/Safety.lean ====
section
/-! DEFINITION. What a good state is between two commands: the invariant of the block, each part from a rule
of the spec; and what a safe run is. -/

namespace Sys2Proof.Machine

/-- The sequencer is idle when no command runs: a completion and a raise both return SEQ_OP, SEQ_PHASE and
SEQ_PASS to NONE, IDLE and 0 (R385, R395, R510). -/
abbrev SequencerIdle (s : State) : Prop :=
  s.seq.op = .none ∧ s.seq.phase = .idle ∧ s.seq.pass = 0

/-- "OLEN always agrees with OBUF[0]" (R127). -/
abbrev FrameAgrees (s : State) : Prop :=
  (s.olen = .short → s.obuf[0] = 0x10) ∧ (s.olen = .long → s.obuf[0] = 0x11)

/-- SES_FATAL is set only within a session (R511, R512), and an open session's software id is 1..15 (R36). -/
abbrev SessionSane (s : State) : Prop :=
  (s.ses.fatal = true → s.ses.isOpen = true) ∧ (s.ses.isOpen = true → s.ses.swid ≠ 0)

/-- A status that is not valid is the sentinel (0, 0, 0) (R43). -/
abbrev Status.Sane (st : Status) : Prop := st.valid = false → st.err = 0 ∧ st.prof = 0

/-- RES_DATA holds at most 16 bytes, and RES_INFO is 0 after OK and DEVICE_REJECTED (R54, R510, R514). -/
abbrev ResultSane (r : Result) : Prop :=
  r.data.length ≤ 16 ∧ (r.code = .ok ∨ r.code = .deviceRejected → r.info = FaultRecord.zero)

/-- Every byte BLK lists lies in a line that LINE_VALID marks as written (R42, I7). -/
abbrev OnlyWrittenLines (s : State) : Prop :=
  ∀ cell ∈ s.blk, s.lineValid.getLsbD (cell.1 / 16) = true

/-- The invariant of the block between two commands. -/
structure Inv (s : State) : Prop where
  idle    : SequencerIdle s
  passes  : s.seq.passes = 1 ∨ s.seq.passes = 2
  frame   : FrameAgrees s
  session : SessionSane s
  status  : s.st.Sane
  endSt1  : s.seq.endSt1.Sane
  endSt2  : s.seq.endSt2.Sane
  result  : ResultSane s.res
  memory  : Memory.wf s.blk
  written : OnlyWrittenLines s

/-- A run of `k` steps from a state is safe when it neither faults nor is refused. -/
def SafeRun (k : Nat) (s : State) : Prop := ∃ t : State, core.run k s = .next t

end Sys2Proof.Machine
end

