-- ==== Sys2Proof/Certificates/Slice0/Obligations.lean ====
section
/-! DEFINITION. The statements for the provers. The helpers say in the spec's own terms what a frame's bytes are,
what a block holds, and which transport calls are made and answered; each obligation then says what an
instruction or the machine does. Answers of the transport are premises (20_memory.md R95). -/

namespace Sys2Proof.Statements

open Sys2Proof.Machine

/-! ## Results -/

/-- RES_* after a command that ends with OK: RES_INFO is 0 (R510). -/
abbrev okWith (data : List Byte) : Result := ⟨.ok, ⟨0, 0, 0, 0⟩, data⟩

/-- RES_* after a refusal: RES_INFO is `[0, 0, 0, aux]`, RES_DLEN is 0 (R510, R516). -/
abbrev refusal (code : ResultCode) (aux : Byte) : Result := ⟨code, ⟨0, 0, 0, aux⟩, []⟩

/-- The instruction is refused: nothing but the result registers changes (R500). -/
def Refuses (i : Instr) (s : State) (code : ResultCode) (aux : Byte) : Prop :=
  exec i s = .next { s with res := refusal code aux }

/-- The session lets transport commands through (R512). -/
abbrev Ready (s : State) : Prop := s.ses.isOpen = true ∧ s.ses.fatal = false

/-- The refusal of a transport command by the session, if any (R512, R513). -/
def sessionRefusal (s : State) : Option (ResultCode × Byte) :=
  if s.ses.isOpen = false then some (.notOpen, 0)
  else if s.ses.fatal = true then some (.transportError, 0)
  else none

/-- The refusal of ENC_SHORT and ENC_LONG by their operands, if any, in the order of R513. -/
def encoderRefusal (fn sw : Byte) : Option (ResultCode × Byte) :=
  if 15 < fn.toNat then some (.badOperand, 3)
  else if 15 < sw.toNat then some (.badOperand, 4)
  else if fn = 0x9 ∨ fn = 0xA ∨ fn = 0xD ∨ fn = 0xE ∨ fn = 0xF then some (.illegalFunction, fn)
  else if sw = 0 then some (.illegalSwid, 0)
  else none

/-- A line LINE_VALID does not mark, every lower one being marked (R505). -/
def LowestUnwritten (s : State) (k : Nat) : Prop :=
  k < 16 ∧ s.lineValid.getLsbD k = false ∧ ∀ j, j < k → s.lineValid.getLsbD j = true

/-! ## Frames -/

/-- `(fn[3:0] << 4) | sw[3:0]` (R123, R200). -/
def opOf (fn sw : Byte) : Byte := ((fn &&& 0x0F) <<< 4) ||| (sw &&& 0x0F)

/-- A short frame (R121). -/
def shortBytes (dev feat fn sw a b c : Byte) : List Byte := [0x10, dev, feat, opOf fn sw, a, b, c]

/-- A long frame (R122). -/
def longBytes (dev feat fn sw : Byte) (payload : List Byte) : List Byte :=
  [0x11, dev, feat, opOf fn sw] ++ payload

/-- The status query's frame (R132). -/
def statusBytes (s : State) : List Byte :=
  shortBytes 0xFF s.par.featProfile 0x4 (s.ses.swid.setWidth 8) s.par.statusA s.par.statusB s.par.statusC

/-- The Begin frame for a target profile (R132). -/
def beginBytes (s : State) (tgt : Byte) : List Byte :=
  longBytes 0xFF s.par.featProfile 0x6 (s.ses.swid.setWidth 8) (beginPayload s.par tgt).toList

/-- The Write frame of line k of a block (R132). -/
def lineBytes (s : State) (block : Nat → Byte) (k : Nat) : List Byte :=
  longBytes 0xFF s.par.featProfile 0x7 (s.ses.swid.setWidth 8) ((List.range 16).map fun j => block (16 * k + j))

/-- The End frame (R132). -/
def endBytes (s : State) : List Byte :=
  shortBytes 0xFF s.par.featProfile 0x8 (s.ses.swid.setWidth 8) s.par.endA s.par.endB s.par.endC

/-- The buffer holds a frame from its start, and above it what the old bytes held (R200). -/
abbrev Carries (frame old : List Byte) (buf : FrameBuf) : Prop := buf.toList = frame ++ old.drop frame.length

/-- IBUF and ILEN hold the bytes of a read (R39). -/
abbrev Received (bytes : List Byte) (buf : FrameBuf) (len : Fin 21) : Prop :=
  len.val = bytes.length ∧ buf.toList.take bytes.length = bytes

/-- The status in the bytes of a response: `(1, byte 4, byte 5)` of 20 bytes, else the sentinel (R202). -/
def statusOf (bytes : List Byte) : Status :=
  if bytes.length = 20 then ⟨true, bytes.getD 4 0, bytes.getD 5 0⟩ else ⟨false, 0, 0⟩

/-- A status as result bytes (R385). -/
def statusData (st : Status) : List Byte := [if st.valid then 1 else 0, st.err, st.prof]

/-- DEVICE_REJECTED for a valid status with an error code, else OK (R385). -/
def statusCode (st : Status) : ResultCode := if st.valid = true ∧ st.err ≠ 0 then .deviceRejected else .ok

/-! ## The checksum and the block -/

/-- One of the eight iterations of `crc_step` (R299). -/
def crcShift (c : Half) : Half := if c.getLsbD 15 = true then (c <<< 1) ^^^ 0x1021 else c <<< 1

/-- `crc_step(c, b)` (R299). -/
def crcByte (c : Half) (b : Byte) : Half := crcShift^[8] (c ^^^ (b.setWidth 16 <<< 8))

/-- `CRC16` of a stream (R299). -/
def crcOf (bytes : List Byte) : Half := bytes.foldl crcByte 0xFFFF

/-- `CRC[15:8]`. -/
def highByte (c : Half) : Byte := (c >>> 8).setWidth 8

/-- `CRC[7:0]`. -/
def lowByte (c : Half) : Byte := c.setWidth 8

/-- The checksum of a block, its trailer excluded (R302). -/
def checksumOf (block : Nat → Byte) : Half := crcOf ((List.range 254).map block)

/-- A block with a trailer, high byte first (R84). -/
def withTrailer (c : Half) (block : Nat → Byte) : Nat → Byte := fun a =>
  if a = 254 then highByte c else if a = 255 then lowByte c else block a

/-- A block with the write-id at P_WID_POS, if a write-id is inserted (R50, R163). -/
def withWriteId (p : Params) (wid : Option Byte) (block : Nat → Byte) : Nat → Byte := fun a =>
  match wid with
  | some w => if a = 16 + p.widOffset.toNat then w else block a
  | none => block a

/-- The block a pass sends: the write-id put in, then the trailer (R380, PREP). -/
def passBlock (p : Params) (wid : Option Byte) (block : Nat → Byte) : Nat → Byte :=
  withTrailer (checksumOf (withWriteId p wid block)) (withWriteId p wid block)

/-- The bytes BLK_BUILD makes (R342, R160, R162). -/
def builtByte (p : Params) (poll : Byte) (dpi : List Half) (profile : Byte) (a : Nat) : Byte :=
  if a = 0 then poll
  else if a = 1 then 0x01
  else if a = 2 then 0x00
  else if a < 13 then
    (if a % 2 = 1 then lowByte (dpi.getD ((a - 3) / 2) 0) else highByte (dpi.getD ((a - 3) / 2) 0))
  else if a < 16 then 0xFF
  else if 160 ≤ a ∧ a < 176 then
    (if a % 2 = 0 then ([0x50, 0x72, 0x6F, 0x66, 0x69, 0x6C, 0x65, 0x30 + profile] : List Byte).getD ((a - 160) / 2) 0
     else 0x00)
  else if 176 ≤ a ∧ a < 192 then 0x00
  else Memory.read p.template a

/-! ## Transport calls and their answers -/

/-- What of the state the transport port sees and changes: the history and the decided answers (R95, log 7). -/
structure Port where
  history : List Event
  writes  : List WriteAnswer
  reads   : List ReadAnswer
  deriving DecidableEq, Repr

/-- The port of a state. -/
abbrev portOf (s : State) : Port := ⟨s.history, s.writeScript, s.readScript⟩

/-- The state with another port. -/
abbrev withPort (s : State) (p : Port) : State :=
  { s with history := p.history, writeScript := p.writes, readScript := p.reads }

/-- The `write_control` call that sends a frame in a state's session (R130). -/
def outCall (s : State) (frame : List Byte) : ControlWrite :=
  ⟨0x21, 9, if frame.length = 7 then 0x0210 else 0x0211, s.ses.ifnum, frame, s.par.timeout⟩

/-- The `read_interrupt` call of a state's session (R130). -/
def inCall (s : State) (timeout : Nat) : InterruptRead := ⟨s.ses.epIn, timeout⟩

/-- The transport's answer to a TxWrite: the next decided one, else the oracle's (R95, log 7). -/
def Port.answerWrite (p : Port) (call : ControlWrite) : WriteAnswer :=
  match p.writes with
  | answer :: _ => answer
  | [] => Config.oracleWrite p.history call

/-- The transport's answer to a TxRead, at most 20 bytes (R95, log 7). -/
def Port.answerRead (p : Port) (call : InterruptRead) : ReadAnswer :=
  match p.reads with
  | answer :: _ => clip answer
  | [] => clip (Config.oracleRead p.history call)

/-- The port after a TxWrite: the call is in the history. -/
def Port.afterOut (p : Port) (call : ControlWrite) : Port := ⟨p.history ++ [.out call], p.writes.tail, p.reads⟩

/-- The port after a TxRead: the call and its answer are in the history. -/
def Port.afterIn (p : Port) (call : InterruptRead) : Port :=
  ⟨p.history ++ [.inp call (p.answerRead call)], p.writes, p.reads.tail⟩

/-- A transport call that goes well. -/
inductive Exchange where
  /-- A frame sent whole. -/
  | sent (frame : List Byte)
  /-- A frame read. -/
  | got (bytes : List Byte)
  deriving DecidableEq, Repr

/-- The port after one exchange, if the transport answers so. -/
def exchange (s : State) (p : Port) : Exchange → Option Port
  | .sent frame =>
    if p.answerWrite (outCall s frame) = .ok frame.length then some (p.afterOut (outCall s frame)) else none
  | .got bytes =>
    if p.answerRead (inCall s s.par.timeout) = .ok bytes then some (p.afterIn (inCall s s.par.timeout)) else none

/-- The port after exchanges in order, if the transport answers every one of them so; `s` gives the session and
the timeout. -/
def exchanges (s : State) : Port → List Exchange → Option Port
  | p, [] => some p
  | p, e :: rest =>
    match exchange s p e with
    | some q => exchanges s q rest
    | none => none

/-- The frames sent in a history. -/
def framesSent (events : List Event) : List (List Byte) :=
  events.filterMap fun e => match e with | .out call => some call.data | .inp _ _ => none

/-- The number of reads in a history. -/
def readsMade (events : List Event) : Nat :=
  (events.filter fun e => match e with | .out _ => false | .inp _ _ => true).length

/-- The exchanges of a pass with target `tgt` over a block; response `i` is the i-th of its 20 (R391). -/
def passExchanges (s : State) (tgt : Byte) (block : Nat → Byte) (response : Nat → List Byte) : List Exchange :=
  [.sent (beginBytes s tgt), .got (response 0)]
  ++ (List.range 16).flatMap (fun k => [.sent (lineBytes s block k), .got (response (k + 1))])
  ++ [.sent (endBytes s), .got (response 17), .got (response 18), .got (response 19)]

/-- A status query's reads: discard frames, then the candidate (R381). -/
structure Query where
  discards  : List (List Byte)
  candidate : List Byte
  deriving DecidableEq, Repr

/-- The reads of a query that succeeds: at most P_MAX_DISCARD discards, then 20 bytes with a non-zero byte 3. -/
def Query.Good (p : Params) (q : Query) : Prop :=
  q.discards.length ≤ p.maxDiscard ∧ (∀ d ∈ q.discards, 4 ≤ d.length ∧ d.getD 3 0 = 0) ∧
    q.candidate.length = 20 ∧ q.candidate.getD 3 0 ≠ 0

/-- ST_PROF of a query's candidate (R381). -/
def Query.prof (q : Query) : Byte := q.candidate.getD 5 0

/-- The exchanges of a query that sends `frame`. -/
def Query.exchanges (frame : List Byte) (q : Query) : List Exchange :=
  .sent frame :: q.discards.map .got ++ [.got q.candidate]

/-! ## Reset -/

/-- The values of the reset table; its entries that are unspecified are not stated (R58). -/
def HasResetValues (t : State) : Prop :=
  t.ses.isOpen = false ∧ t.ses.fatal = false ∧ t.olen = .empty ∧ t.ilen = 0 ∧ t.crc = 0xFFFF ∧ t.lineValid = 0x0000 ∧
  t.st = ⟨false, 0, 0⟩ ∧
  t.seq = ⟨.none, .idle, 0, 1, 0, 0, 0, 0, 0, false, 0, 0, ⟨false, 0, 0⟩, ⟨false, 0, 0⟩⟩ ∧
  t.res = ⟨.ok, ⟨0, 0, 0, 0⟩, []⟩

/-! ## Sequencer steps -/

/-- SEQ_PHASE's number (R45). -/
def phaseNumber : SeqPhase → Byte
  | .idle => 0
  | .qTx => 1
  | .qRx => 2
  | .prep => 3
  | .bTx => 4
  | .bRx => 5
  | .lTx => 6
  | .lRx => 7
  | .eTx => 8
  | .eRx => 9

/-- The frame a send step sends (R380). -/
def stepFrame (s : State) : List Byte :=
  match s.seq.phase with
  | .qTx => statusBytes s
  | .bTx => beginBytes s s.seq.tgt
  | .lTx => lineBytes s s.blk.read s.seq.line.toNat
  | .eTx => endBytes s
  | .idle | .qRx | .prep | .bRx | .lRx | .eRx => []

/-- A step of `s` ended with `raise code(aux)`: RES_INFO holds the place of the raise, the sequencer is idle,
TRANSPORT_ERROR sets SES_FATAL, and nothing is rolled back (R510, R511, R517). -/
def RaisedAt (s t : State) (code : ResultCode) (aux : Byte) : Prop :=
  t.res = ⟨code, ⟨phaseNumber s.seq.phase, s.seq.pass.setWidth 8, s.seq.line.setWidth 8, aux⟩, []⟩ ∧
  t.seq.op = .none ∧ t.seq.phase = .idle ∧ t.seq.pass = 0 ∧
  t.ses = { s.ses with fatal := s.ses.fatal || code = .transportError } ∧
  t.blk = s.blk ∧ t.crc = s.crc ∧ t.lineValid = s.lineValid

/-- A state after `raise code(aux)` in a step (R510, R511): RES_INFO is its place, and only the result registers,
SES_FATAL, SEQ_OP, SEQ_PHASE and SEQ_PASS are written. -/
abbrev raisedInStep (t : State) (code : ResultCode) (aux : Byte) : State :=
  { t with
    res := ⟨code, ⟨phaseNumber t.seq.phase, t.seq.pass.setWidth 8, t.seq.line.setWidth 8, aux⟩, []⟩
    ses := { t.ses with fatal := t.ses.fatal || code = .transportError }
    seq := { t.seq with op := .none, phase := .idle, pass := 0 } }

/-- A step made exactly one TxWrite. -/
def OneOut (s t : State) : Prop := ∃ call, t.history = s.history ++ [.out call]

/-- A step made exactly one TxRead. -/
def OneIn (s t : State) : Prop := ∃ call answer, t.history = s.history ++ [.inp call answer]

/-- The rows of the transition table (R390). -/
def Transition (s t : State) : Prop :=
  match s.seq.phase with
  | .idle => t = s
  | .qTx => OneOut s t ∧ (t.seq.phase = .qRx ∨ ∃ aux, RaisedAt s t .transportError aux)
  | .qRx =>
    OneIn s t ∧
      ((t.seq.phase = .qRx ∧ t.seq.disc = s.seq.disc + 1) ∨
       (t.seq.phase = .idle ∧ s.seq.op = .query ∧ (t.res.code = .ok ∨ t.res.code = .deviceRejected)) ∨
       (t.seq.phase = .prep ∧ s.seq.op ≠ .query ∧ t.st.prof ≠ 0 ∧ t.seq.tgt = t.st.prof ∧ t.seq.pass = 1) ∨
       (t.seq.phase = .qTx ∧ s.seq.op ≠ .query ∧ t.st.prof = 0 ∧ t.seq.polls < s.par.maxPolls) ∨
       (∃ aux, RaisedAt s t .protocolMismatch aux) ∨ (∃ aux, RaisedAt s t .profilePollExhausted aux) ∨
       (∃ aux, RaisedAt s t .transportError aux))
  | .prep => t.history = s.history ∧ t.seq.phase = .bTx ∧ t.seq.line = 0
  | .bTx => OneOut s t ∧ (t.seq.phase = .bRx ∨ ∃ aux, RaisedAt s t .transportError aux)
  | .bRx => OneIn s t ∧ (t.seq.phase = .lTx ∨ ∃ aux, RaisedAt s t .transportError aux)
  | .lTx => OneOut s t ∧ (t.seq.phase = .lRx ∨ ∃ aux, RaisedAt s t .transportError aux)
  | .lRx =>
    OneIn s t ∧
      ((t.seq.phase = .lTx ∧ t.seq.line = s.seq.line + 1 ∧ t.seq.line ≠ 16) ∨
       (t.seq.phase = .eTx ∧ t.seq.line = s.seq.line + 1 ∧ t.seq.line = 16) ∨
       (∃ aux, RaisedAt s t .transportError aux))
  | .eTx => OneOut s t ∧ ((t.seq.phase = .eRx ∧ t.seq.rxleft = 3) ∨ ∃ aux, RaisedAt s t .transportError aux)
  | .eRx =>
    OneIn s t ∧
      ((t.seq.phase = .eRx ∧ t.seq.rxleft = s.seq.rxleft - 1 ∧ t.seq.rxleft ≠ 0) ∨
       (t.seq.phase = .prep ∧ t.seq.rxleft = 0 ∧ s.seq.pass < s.seq.passes ∧ t.seq.pass = s.seq.pass + 1) ∨
       (t.seq.phase = .idle ∧ t.seq.rxleft = 0 ∧ ¬ s.seq.pass < s.seq.passes ∧
         (t.res.code = .ok ∨ t.res.code = .deviceRejected)) ∨
       (∃ aux, RaisedAt s t .transportError aux))

/-! ## Who writes what (R59; a wire frame writes what its rule's commands write) -/

/-- The instructions that send or read a frame: the transport commands of R508 and the wire frames. -/
def usesTransport : Instr → Bool
  | .sessionOpen .. | .sessionClose | .encShort .. | .encLong .. | .decStatus | .classify | .crcInit | .crcUpdate ..
  | .crcBlock | .crcRead | .blkWrite .. | .blkRead .. | .blkBuild .. => false
  | _ => true

/-- The writers of OBUF and OLEN. -/
def writesObuf : Instr → Bool
  | .encShort .. | .encLong .. => true
  | .xferSend | .xferRecv .. => false
  | i => usesTransport i

/-- The writers of IBUF and ILEN. -/
def writesIbuf : Instr → Bool
  | .xferRecv .. | .seqQueryStatus | .seqRecordPass .. | .seqWriteConfig .. | .profileSwitchShort .. | .setColorLong ..
  | .statusShort .. | .startRecordLong .. | .writeRecordLong .. | .endRecordShort .. => true
  | _ => false

/-- The writers of CRC. -/
def writesCrc : Instr → Bool
  | .crcInit | .crcUpdate .. | .crcBlock | .seqRecordPass .. | .seqWriteConfig .. => true
  | _ => false

/-- The writers of BLK. -/
def writesBlk : Instr → Bool
  | .blkWrite .. | .blkBuild .. | .crcBlock | .seqRecordPass .. | .seqWriteConfig .. => true
  | _ => false

/-- The writers of LINE_VALID. -/
def writesLineValid : Instr → Bool
  | .blkWrite .. | .blkBuild .. => true
  | _ => false

/-- The writers of ST_*. -/
def writesStatus : Instr → Bool
  | .decStatus | .seqQueryStatus | .seqWriteConfig .. | .statusShort .. => true
  | _ => false

/-- The writers of SEQ_* and END_ST*, two wire frames among them (logs 18 and 34); a raise only returns SEQ_OP,
SEQ_PHASE and SEQ_PASS (R510). -/
def writesSeq : Instr → Bool
  | .seqQueryStatus | .seqRecordPass .. | .seqWriteConfig .. | .statusShort .. | .endRecordShort .. => true
  | _ => false

/-- The writers of the session registers other than SES_FATAL. -/
def writesSession : Instr → Bool
  | .sessionOpen .. | .sessionClose => true
  | _ => false

/-- The instructions that can end with DEVICE_REJECTED: those of R514, and two wire frames (R259, R255; logs 18 and 34). -/
def mayBeRejected : Instr → Bool
  | .seqQueryStatus | .seqRecordPass .. | .seqWriteConfig .. | .statusShort .. | .endRecordShort .. => true
  | _ => false

/-- The instructions that run a status query: those of R502, and the frame of R255 (logs 19 and 34). -/
def runsQuery : Instr → Bool
  | .seqQueryStatus | .seqWriteConfig .. | .statusShort .. => true
  | _ => false

/-- Commands one after another, each from the state the last one left. -/
def execAll : List Instr → State → Outcome
  | [], s => .next s
  | i :: rest, s =>
    match exec i s with
    | .next t => execAll rest t
    | .fault f => .fault f
    | .refused r => .refused r

/-! ## Wire frames -/

/-- A frame in OBUF with its OLEN: a short frame has 7 bytes, a long one 20. -/
abbrev withFrame (s : State) (buf : FrameBuf) (len : OutLen) : State := { s with obuf := buf, olen := len }

/-- The state after a frame was built, sent and taken by the transport. -/
abbrev sentState (s : State) (buf : FrameBuf) (len : OutLen) (frame : List Byte) : State :=
  { withPort s ((portOf s).afterOut (outCall s frame)) with obuf := buf, olen := len, res := okWith [] }

/-- A state after `raise TRANSPORT_ERROR(aux)` outside a step (R510, R511). -/
abbrev transportFailed (t : State) (aux : Byte) : State :=
  { t with
    res := ⟨.transportError, ⟨0, 0, 0, aux⟩, []⟩
    ses := { t.ses with fatal := true }
    seq := { t.seq with op := .none, phase := .idle, pass := 0 } }

/-- The state after a frame was built and its send failed: TRANSPORT_ERROR with aux 1 (R501). -/
abbrev failedState (s : State) (buf : FrameBuf) (len : OutLen) (frame : List Byte) : State :=
  transportFailed (withFrame (withPort s ((portOf s).afterOut (outCall s frame))) buf len) 1

/-- What a wire frame without a response rule does (R250 to R252, R256, R260, R261): it is built in OBUF and sent. -/
def EmitsOnly (i : Instr) (s : State) (len : OutLen) (frame : List Byte) : Prop :=
  ∃ buf : FrameBuf, Carries frame s.obuf.toList buf ∧
    exec i s =
      .next (if (portOf s).answerWrite (outCall s frame) = .ok frame.length then sentState s buf len frame
             else failedState s buf len frame)

/-- The eleven short frames with their function ids (R124). -/
def shortFrames (dev feat : Byte) (sw : Nibble) (a b c : Byte) : List (Byte × Instr) :=
  [(0x0, .rootShort dev feat sw a b c), (0x1, .getFeatureShort dev feat sw a b c),
   (0x2, .connCheckShort dev feat sw a b c), (0x3, .profileSwitchShort dev feat sw a b c),
   (0x4, .statusShort dev feat sw a b c), (0x5, .readRecordShort dev feat sw a b c),
   (0x6, .startRecordShort dev feat sw a b c), (0x7, .writeRecordShort dev feat sw a b c),
   (0x8, .endRecordShort dev feat sw a b c), (0xB, .errBShort dev feat sw a b c), (0xC, .errCShort dev feat sw a b c)]

/-- The eleven long frames with their function ids (R124). -/
def longFrames (dev feat : Byte) (sw : Nibble) (payload : Payload) : List (Byte × Instr) :=
  [(0x0, .rootLong dev feat sw payload), (0x1, .getFeatureLong dev feat sw payload),
   (0x2, .connCheckLong dev feat sw payload), (0x3, .setColorLong dev feat sw payload),
   (0x4, .statusLong dev feat sw payload), (0x5, .readRecordLong dev feat sw payload),
   (0x6, .startRecordLong dev feat sw payload), (0x7, .writeRecordLong dev feat sw payload),
   (0x8, .endRecordLong dev feat sw payload), (0xB, .errBLong dev feat sw payload), (0xC, .errCLong dev feat sw payload)]

/-- A wire frame that is not sent: software id 0 refuses it, and a session that is not ready refuses it once it
is built (R504, R512). -/
def NotSent (i : Instr) (s : State) (sw : Nibble) (len : OutLen) (frame : List Byte) : Prop :=
  (sw = 0 → Refuses i s .illegalSwid 0) ∧
  (∀ code aux, sw ≠ 0 → sessionRefusal s = some (code, aux) →
    ∃ buf : FrameBuf, Carries frame s.obuf.toList buf ∧
      exec i s = .next { withFrame s buf len with res := refusal code aux })

/-! ## Wire frames with reads -/

/-- The transport does not take the frame whole: it fails, or takes another number of bytes (R204). -/
abbrev SendFails (s : State) (frame : List Byte) : Prop :=
  (portOf s).answerWrite (outCall s frame) ≠ .ok frame.length

/-- IBUF and ILEN after some reads: the last frame read, or what they held where none was read (R39). -/
def HoldsLast (s : State) (reads : List (List Byte)) (ibuf : FrameBuf) (ilen : Fin 21) : Prop :=
  (reads = [] → ibuf = s.ibuf ∧ ilen = s.ilen) ∧ ∀ last, reads.getLast? = some last → Received last ibuf ilen

/-- A state with another port, a frame in OBUF and a read in IBUF. -/
abbrev withTraffic (t : State) (p : Port) (buf : FrameBuf) (len : OutLen) (ibuf : FrameBuf) (ilen : Fin 21)
    (free : Nat) : State :=
  { withFrame (withPort t p) buf len with ibuf := ibuf, ilen := ilen, free := free }

/-- A frame that is not sent whole: TRANSPORT_ERROR with aux 1, the frame stays in OBUF, and nothing is read. -/
def FailedSendRaises (i : Instr) (s : State) (len : OutLen) (frame : List Byte) : Prop :=
  SendFails s frame →
    ∃ buf : FrameBuf, Carries frame s.obuf.toList buf ∧ exec i s = .next (failedState s buf len frame)

/-- One of a frame's `need` reads fails, `reads` being those before it: TRANSPORT_ERROR with aux 2, and no further
call. `after reads` is the state but for the buffers and the port. -/
def FailedReadRaises (i : Instr) (s : State) (len : OutLen) (frame : List Byte) (need : Nat)
    (after : List (List Byte) → State) : Prop :=
  ∀ (reads : List (List Byte)) (p : Port), reads.length < need → (∀ r ∈ reads, r ≠ []) →
    exchanges s (portOf s) (.sent frame :: reads.map .got) = some p →
    p.answerRead (inCall s s.par.timeout) = .fail →
    ∃ (buf ibuf : FrameBuf) (ilen : Fin 21) (free : Nat),
      Carries frame s.obuf.toList buf ∧ HoldsLast s reads ibuf ilen ∧
      exec i s =
        .next (transportFailed (withTraffic (after reads) (p.afterIn (inCall s s.par.timeout)) buf len ibuf ilen free) 2)

/-- One of a frame's `need` reads is empty, `reads` being those before it: no further call is made, ILEN is 0, and
the frame ends as `ends` says. -/
def EmptyReadEnds (i : Instr) (s : State) (len : OutLen) (frame : List Byte) (need : Nat)
    (after : List (List Byte) → State) (ends : State → State) : Prop :=
  ∀ (reads : List (List Byte)) (p : Port), reads.length < need → (∀ r ∈ reads, r ≠ []) →
    exchanges s (portOf s) (.sent frame :: reads.map .got ++ [.got []]) = some p →
    ∃ (buf ibuf : FrameBuf) (free : Nat), Carries frame s.obuf.toList buf ∧
      exec i s = .next (ends (withTraffic (after reads) p buf len ibuf 0 free))

/-- END_ST1 in pass 1 and else END_ST2 hold the first response's status, if there is a response (R380, E_RX). -/
def withEndStatus (s : State) (reads : List (List Byte)) : State :=
  match reads with
  | [] => s
  | first :: _ =>
    { s with
      seq := if s.seq.pass = 1 then { s.seq with endSt1 := statusOf first } else { s.seq with endSt2 := statusOf first } }

/-- The aux of PROTOCOL_MISMATCH for a read of the status query, `n` discard frames before it, if it is one (R502). -/
def mismatchAux (p : Params) (n : Nat) (bytes : List Byte) : Option Byte :=
  if bytes.length = 0 then some 0
  else if bytes.length ≤ 3 then some 1
  else if bytes.getD 3 0 = 0 then (if p.maxDiscard ≤ n then some 2 else none)
  else if bytes.length < 20 then some 3
  else none

/-- A state in the status query's phase `phase`, `n` discard frames counted (R382, R380). -/
abbrev inQuery (t : State) (phase : SeqPhase) (n : Nat) : State :=
  { t with seq := { t.seq with phase := phase, pass := 0, disc := n } }

end Sys2Proof.Statements

/-! ## The statements -/

section

open Sys2Proof Sys2Proof.Machine Sys2Proof.Statements

/-- O1. Decoding an encoded instruction gives it back, for every instruction and every operand value (R121, R122,
R123, R124, R150, R151, R86). -/
def Obligations.EncodeThenDecode : Prop :=
  ∀ i : Instr, decode i.space (encode i) = .ok i

/-- O2. Bytes that decode are the encoding of the instruction they decode to (R120, R123, R150, R153). -/
def Obligations.DecodeThenEncode : Prop :=
  ∀ (space : Space) (bytes : List Byte) (i : Instr),
    decode space bytes = .ok i → i.space = space ∧ encode i = bytes

/-- O3. Words written out from the tables of R150, R121 and R122 decode to their instructions (R121, R122, R150).
The model's choices in it: log 25. -/
def Obligations.TableWordsDecode : Prop :=
  decodeTableWord 40 0x0A03830201 = some (.sessionOpen 2 0x83 3 0xA) ∧
  decodeTableWord 16 0x3121 = some (.crcUpdate 0x31) ∧
  decodeTableWord 32 0x1D010141 = some (.seqRecordPass 1 1 0x1D) ∧
  decodeTableWord 32 0x10FF0A4A = some (.statusShort 0xFF 0x0A 0xA 0 0 0) ∧
  decodeTableWord 56 0x0210FF0A3A = some (.profileSwitchShort 0xFF 0x0A 0xA 2 0 0) ∧
  decodeTableWord 32 0x11FF0A7A = some (.writeRecordLong 0xFF 0x0A 0xA (Vector.replicate 16 0))

/-- O4. The length of a command is told by its code, and that of a frame by its report id (R153). -/
def Obligations.LengthToldByCode : Prop :=
  (∀ (code : Byte) (operands operands' : List Byte) (i i' : Instr),
    decodeCommand (code :: operands) = .ok i → decodeCommand (code :: operands') = .ok i' →
    operands.length = operands'.length) ∧
  (∀ (frame : List Byte) (i : Instr), decodeFrame frame = .ok i →
    (frame.head? = some 0x10 ∧ frame.length = 7) ∨ (frame.head? = some 0x11 ∧ frame.length = 20))

/-- O5. The op byte packs the function id into bits 7..4 and the software id into bits 3..0 (R123). -/
def Obligations.OpByteNibbles : Prop :=
  (∀ fn sw : Nibble,
    opByte fn sw = (fn.setWidth 8 <<< 4) ||| sw.setWidth 8 ∧
    opFunction (opByte fn sw) = fn ∧ opSwid (opByte fn sw) = sw) ∧
  (∀ op : Byte, opByte (opFunction op) (opSwid op) = op)

/-- O6. A step runs the decoded instruction and moves the host to its next statement (R30, R92, R154). The model's
choices in it: log 1. -/
def Obligations.StepRunsDecoded : Prop :=
  ∀ (s : State) (space : Space) (bytes : List Byte) (i : Instr),
    s.prog[s.pos]? = some (stmtOf space bytes) → decode space bytes = .ok i →
    step s =
      match exec i s with
      | .next t => .next { t with pos := s.pos + 1 }
      | .fault f => .fault f
      | .refused r => .refused r

/-- O7. HOST_GOTO, HOST_IF and HOST_STOP move only the host, and a condition reads only the results (R154, R440).
The model's choices in it: logs 1 and 26. -/
def Obligations.HostControlFlow : Prop :=
  ∀ (s : State) (cond : HostCond) (target : Nat),
    (s.prog[s.pos]? = some (.goto target) → step s = .next { s with pos := target }) ∧
    (s.prog[s.pos]? = some (.branch cond target) → condHolds s cond = true → step s = .next { s with pos := target }) ∧
    (s.prog[s.pos]? = some (.branch cond target) → condHolds s cond = false →
      step s = .next { s with pos := s.pos + 1 }) ∧
    (s.prog[s.pos]? = some .stop → step s = .next s) ∧
    (s.prog[s.pos]? = none → step s = .next s) ∧
    (∀ codes, condHolds s (.codeIn codes) = decide (s.res.code.code ∈ codes)) ∧
    (∀ i v, condHolds s (.dataIs i v) = decide (s.res.data[i]? = some v)) ∧
    (∀ c, condHolds s (.not c) = !condHolds s c) ∧
    (∀ c d, condHolds s (.or c d) = (condHolds s c || condHolds s d))

/-- O8. A command whose code is none of the 18 ends with ILLEGAL_COMMAND and changes only the results (R507). -/
def Obligations.UnknownCommandCodes : Prop :=
  ∀ s : State, SequencerIdle s →
    (∀ (code : Byte) (operands : List Byte), s.prog[s.pos]? = some (.command (code :: operands)) →
      code.toNat ∉ [0x01, 0x02, 0x10, 0x11, 0x12, 0x13, 0x14, 0x15, 0x20, 0x21, 0x22, 0x23, 0x30, 0x31, 0x32,
        0x40, 0x41, 0x42] →
      step s = .next { s with res := refusal .illegalCommand code, pos := s.pos + 1 }) ∧
    (s.prog[s.pos]? = some (.command []) →
      step s = .next { s with res := refusal .illegalCommand 0, pos := s.pos + 1 })

/-- O9. A command whose length does not match its code ends with BAD_OPERAND, aux 0xFF (R152, R506, R513). -/
def Obligations.WrongCommandLengths : Prop :=
  ∀ (s : State) (code : Byte) (operands : List Byte) (n : Nat),
    SequencerIdle s → s.prog[s.pos]? = some (.command (code :: operands)) →
    (code.toNat, n) ∈ [(0x01, 5), (0x02, 1), (0x10, 8), (0x11, 21), (0x12, 1), (0x13, 1), (0x14, 1), (0x15, 2),
      (0x20, 1), (0x21, 2), (0x22, 1), (0x23, 1), (0x30, 18), (0x31, 2), (0x32, 13), (0x40, 1), (0x41, 4), (0x42, 2)] →
    operands.length + 1 ≠ n →
    step s = .next { s with res := refusal .badOperand 0xFF, pos := s.pos + 1 }

/-- O10. A frame with a reserved function id is refused, and bytes that are no frame have no meaning (R120, R125,
R503). The model's choices in it: logs 2 and 23. -/
def Obligations.FramesThatAreNone : Prop :=
  ∀ (s : State) (dev feat op : Byte), SequencerIdle s →
    (op >>> 4 = 0x9 ∨ op >>> 4 = 0xA ∨ op >>> 4 = 0xD ∨ op >>> 4 = 0xE ∨ op >>> 4 = 0xF →
      (∀ a b c : Byte, s.prog[s.pos]? = some (.frame [0x10, dev, feat, op, a, b, c]) →
        step s = .next { s with res := refusal .illegalFunction (op >>> 4), pos := s.pos + 1 }) ∧
      (∀ payload : Payload, s.prog[s.pos]? = some (.frame (0x11 :: dev :: feat :: op :: payload.toList)) →
        step s = .next { s with res := refusal .illegalFunction (op >>> 4), pos := s.pos + 1 })) ∧
    (∀ bytes : List Byte, s.prog[s.pos]? = some (.frame bytes) →
      ¬ (bytes.head? = some 0x10 ∧ bytes.length = 7) → ¬ (bytes.head? = some 0x11 ∧ bytes.length = 20) →
      step s = .refused .malformedFrame)

/-- O11. Reset, from any state, leaves every register the reset table gives a value at that value (R58). -/
def Obligations.ResetValues : Prop :=
  HasResetValues State.reset ∧ (∀ s : State, HasResetValues (powerOn s)) ∧ sesDevidx = 0xFF

/-- O12. The state after reset meets the invariant of the block between two commands (R58, R601). -/
def Obligations.ResetInvariant : Prop :=
  Inv State.reset

/-- O13. Every step that answers a next state keeps the invariant of the block (R36, R42, R43, R46, R54, R127, R385,
R395, R510, R511). -/
def Obligations.StepKeepsInvariant : Prop :=
  ∀ s t : State, Inv s → step s = .next t → Inv t

/-- O14. Two canonical contents of BLK that read alike at every offset are the same data (R41, R80). The model's
choices in it: log 10. -/
def Obligations.MemoryIsCanonical : Prop :=
  ∀ m m' : Memory, m.wf → m'.wf → (∀ a, a < 256 → m.read a = m'.read a) → m = m'

/-- O15. SESSION_OPEN loads the session registers, or is refused by its checks in their order (R420). -/
def Obligations.SessionOpens : Prop :=
  ∀ (s : State) (ifnum epIn epOut swid : Byte),
    (s.ses.isOpen = false → 1 ≤ swid.toNat → swid.toNat ≤ 15 →
      exec (.sessionOpen ifnum epIn epOut swid) s =
        .next { s with ses := ⟨true, ifnum, epIn, epOut, swid.setWidth 4, false⟩, res := okWith [] }) ∧
    (SequencerIdle s → s.ses.isOpen = true → Refuses (.sessionOpen ifnum epIn epOut swid) s .badOperand 0) ∧
    (SequencerIdle s → s.ses.isOpen = false → 15 < swid.toNat →
      Refuses (.sessionOpen ifnum epIn epOut swid) s .badOperand 4) ∧
    (SequencerIdle s → s.ses.isOpen = false → swid = 0 →
      Refuses (.sessionOpen ifnum epIn epOut swid) s .illegalSwid 0)

/-- O16. SESSION_CLOSE succeeds in every state and clears SES_OPEN and SES_FATAL (R421). -/
def Obligations.SessionCloses : Prop :=
  ∀ s : State, ∃ (ifnum epIn epOut : Byte) (swid : Nibble) (free : Nat),
    exec .sessionClose s =
      .next { s with ses := ⟨false, ifnum, epIn, epOut, swid, false⟩, free := free, res := okWith [] }

/-- O17. A command that uses the transport is refused in a closed or failed session, before its own checks (R508,
R511, R512, R513). -/
def Obligations.TransportAdmission : Prop :=
  ∀ (s : State) (i : Instr) (tsel profile widmode wid : Byte), SequencerIdle s →
    i ∈ [Instr.xferSend, .xferRecv tsel, .seqQueryStatus, .seqRecordPass profile widmode wid, .seqWriteConfig profile] →
    (s.ses.isOpen = false → Refuses i s .notOpen 0) ∧
    (s.ses.isOpen = true → s.ses.fatal = true → Refuses i s .transportError 0)

/-- O18. TRANSPORT_ERROR sets SES_FATAL, and then no transport call is made until the session is closed (R511). -/
def Obligations.TransportErrorSticks : Prop :=
  (∀ (i : Instr) (s t : State), exec i s = .next t →
    (t.res.code = .transportError → t.ses.fatal = true) ∧
    (SessionSane s → s.ses.fatal = true → i ≠ .sessionClose → t.ses.fatal = true ∧ t.history = s.history) ∧
    (i = .sessionClose → t.ses.fatal = false)) ∧
  (∀ (s : State) (i : Instr) (tsel profile widmode wid : Byte),
    i ∈ [Instr.xferSend, .xferRecv tsel, .seqQueryStatus, .seqRecordPass profile widmode wid, .seqWriteConfig profile] →
    s.ses.isOpen = true → s.ses.fatal = true → SequencerIdle s → Refuses i s .transportError 0) ∧
  State.reset.ses.fatal = false ∧ (∀ s : State, (powerOn s).ses.fatal = false)

/-- O19. ENC_SHORT puts the short frame into OBUF, or is refused by its checks in their order (R200). -/
def Obligations.EncShortBuilds : Prop :=
  ∀ (s : State) (dev feat fn sw a b c : Byte),
    (encoderRefusal fn sw = none →
      ∃ buf : FrameBuf, Carries (shortBytes dev feat fn sw a b c) s.obuf.toList buf ∧
        exec (.encShort dev feat fn sw a b c) s =
          .next { s with obuf := buf, olen := .short, res := okWith [] }) ∧
    (∀ code aux, encoderRefusal fn sw = some (code, aux) → SequencerIdle s →
      Refuses (.encShort dev feat fn sw a b c) s code aux)

/-- O20. ENC_LONG puts the long frame into OBUF, or is refused by its checks in their order (R201). -/
def Obligations.EncLongBuilds : Prop :=
  ∀ (s : State) (dev feat fn sw : Byte) (payload : Payload),
    (encoderRefusal fn sw = none →
      ∃ buf : FrameBuf, buf.toList = longBytes dev feat fn sw payload.toList ∧
        exec (.encLong dev feat fn sw payload) s =
          .next { s with obuf := buf, olen := .long, res := okWith [] }) ∧
    (∀ code aux, encoderRefusal fn sw = some (code, aux) → SequencerIdle s →
      Refuses (.encLong dev feat fn sw payload) s code aux)

/-- O21. The codec is exact, one-to-one, makes no transport call and does not read the session (R206). -/
def Obligations.CodecLaws : Prop :=
  (∀ (s s' t t' : State) (dev feat fn sw a b c dev' feat' fn' sw' a' b' c' : Byte),
    encoderRefusal fn sw = none → encoderRefusal fn' sw' = none →
    exec (.encShort dev feat fn sw a b c) s = .next t → exec (.encShort dev' feat' fn' sw' a' b' c') s' = .next t' →
    t.obuf[3] >>> 4 = fn ∧ t.obuf[3] &&& 0x0F = sw ∧
    (t.obuf.toList.take 7 = t'.obuf.toList.take 7 →
      [dev, feat, fn, sw, a, b, c] = [dev', feat', fn', sw', a', b', c'])) ∧
  (∀ (s s' t t' : State) (dev feat fn sw dev' feat' fn' sw' : Byte) (payload payload' : Payload),
    encoderRefusal fn sw = none → encoderRefusal fn' sw' = none →
    exec (.encLong dev feat fn sw payload) s = .next t → exec (.encLong dev' feat' fn' sw' payload') s' = .next t' →
    t.obuf[3] >>> 4 = fn ∧ t.obuf[3] &&& 0x0F = sw ∧
    (t.obuf = t'.obuf → [dev, feat, fn, sw] = [dev', feat', fn', sw'] ∧ payload = payload')) ∧
  (∀ (s : State) (e p : Byte), s.ilen = 20 → s.ibuf[4] = e → s.ibuf[5] = p →
    ∃ t, exec .decStatus s = .next t ∧ t.st = ⟨true, e, p⟩) ∧
  (∀ (s : State) (ses : Session) (dev feat fn sw a b c : Byte) (payload : Payload) (i : Instr),
    i ∈ [Instr.encShort dev feat fn sw a b c, .encLong dev feat fn sw payload, .decStatus, .classify] →
    ∃ t, exec i s = .next t ∧ t.history = s.history ∧ exec i { s with ses := ses } = .next { t with ses := ses })

/-- O22. DEC_STATUS decodes a 20-byte frame, and gives the sentinel (0, 0, 0) for every other length (R202). -/
def Obligations.DecStatusDecodes : Prop :=
  ∀ s : State,
    (s.ilen = 20 →
      exec .decStatus s =
        .next { s with st := ⟨true, s.ibuf[4], s.ibuf[5]⟩, res := okWith [1, s.ibuf[4], s.ibuf[5]] }) ∧
    (s.ilen ≠ 20 → exec .decStatus s = .next { s with st := ⟨false, 0, 0⟩, res := okWith [0, 0, 0] })

/-- O23. CLASSIFY returns the class of the frame in IBUF: EMPTY, RUNT, DISCARD or CANDIDATE (R203, R129). -/
def Obligations.ClassifyClasses : Prop :=
  ∀ s : State,
    (s.ilen.val = 0 → exec .classify s = .next { s with res := okWith [0] }) ∧
    (1 ≤ s.ilen.val → s.ilen.val ≤ 3 → exec .classify s = .next { s with res := okWith [1] }) ∧
    (4 ≤ s.ilen.val → s.ibuf[3] = 0 → exec .classify s = .next { s with res := okWith [2] }) ∧
    (4 ≤ s.ilen.val → s.ibuf[3] ≠ 0 → exec .classify s = .next { s with res := okWith [3] })

/-- O24. XFER_SEND sends the frame in OBUF as one write_control call, or raises TRANSPORT_ERROR (R204). -/
def Obligations.XferSendSends : Prop :=
  ∀ s : State,
    (∀ code aux, SequencerIdle s → sessionRefusal s = some (code, aux) → Refuses .xferSend s code aux) ∧
    (Ready s → SequencerIdle s → s.olen = .empty → Refuses .xferSend s .badOperand 0) ∧
    (∀ frame, Ready s → s.olen ≠ .empty → frame = s.obuf.toList.take (if s.olen = .short then 7 else 20) →
      exec .xferSend s =
        .next
          (if (portOf s).answerWrite (outCall s frame) = .ok frame.length then sentState s s.obuf s.olen frame
           else failedState s s.obuf s.olen frame))

/-- O25. XFER_RECV reads one frame into IBUF with the selected timeout, or raises TRANSPORT_ERROR (R205). -/
def Obligations.XferRecvReads : Prop :=
  ∀ (s : State) (tsel : Byte) (call : InterruptRead),
    call = inCall s (if tsel = 0 then s.par.timeout else s.par.clearTimeout) →
    (∀ code aux, SequencerIdle s → sessionRefusal s = some (code, aux) → Refuses (.xferRecv tsel) s code aux) ∧
    (Ready s → SequencerIdle s → 1 < tsel.toNat → Refuses (.xferRecv tsel) s .badOperand 1) ∧
    (∀ bytes, Ready s → tsel.toNat ≤ 1 → (portOf s).answerRead call = .ok bytes →
      ∃ (ibuf : FrameBuf) (ilen : Fin 21) (free : Nat), Received bytes ibuf ilen ∧
        exec (.xferRecv tsel) s =
          .next { withPort s ((portOf s).afterIn call) with
            ibuf := ibuf, ilen := ilen, free := free, res := okWith [BitVec.ofNat 8 bytes.length] }) ∧
    (Ready s → tsel.toNat ≤ 1 → (portOf s).answerRead call = .fail →
      exec (.xferRecv tsel) s =
        .next { withPort s ((portOf s).afterIn call) with
          res := ⟨.transportError, ⟨0, 0, 0, 2⟩, []⟩
          ses := { s.ses with fatal := true }
          seq := { s.seq with op := .none, phase := .idle, pass := 0 } })

/-- O26. CRC_INIT, CRC_UPDATE and CRC_READ set, step and return the running checksum (R300, R301, R303). -/
def Obligations.CrcCommands : Prop :=
  ∀ (s : State) (b : Byte),
    exec .crcInit s = .next { s with crc := 0xFFFF, res := okWith [] } ∧
    exec (.crcUpdate b) s = .next { s with crc := crcByte s.crc b, res := okWith [] } ∧
    exec .crcRead s = .next { s with res := okWith [highByte s.crc, lowByte s.crc] }

/-- O27. CRC_INIT, a CRC_UPDATE for each byte and CRC_READ return the checksum of the stream (R299, R300, R301,
R303). -/
def Obligations.CrcStream : Prop :=
  (∀ (s : State) (bytes : List Byte),
    execAll (.crcInit :: bytes.map .crcUpdate ++ [.crcRead]) s =
      .next { s with crc := crcOf bytes, res := okWith [highByte (crcOf bytes), lowByte (crcOf bytes)] }) ∧
  crcOf [0x31, 0x32, 0x33, 0x34, 0x35, 0x36, 0x37, 0x38, 0x39] = 0x29B1

/-- O28. CRC_BLOCK checksums BLK[0..253] and writes the trailer big-endian (R302). -/
def Obligations.CrcBlockSeals : Prop :=
  ∀ s : State,
    (s.lineValid = 0xFFFF →
      ∃ m : Memory, (∀ a, m.read a = withTrailer (checksumOf s.blk.read) s.blk.read a) ∧
        exec .crcBlock s =
          .next { s with
            crc := checksumOf s.blk.read
            blk := m
            res := okWith [highByte (checksumOf s.blk.read), lowByte (checksumOf s.blk.read)] }) ∧
    (∀ k, LowestUnwritten s k → SequencerIdle s → Refuses .crcBlock s .blockIncomplete (BitVec.ofNat 8 k))

/-- O29. Running CRC_BLOCK a second time changes nothing (R302). -/
def Obligations.CrcBlockTwice : Prop :=
  ∀ s : State, s.blk.wf → s.lineValid = 0xFFFF →
    ∃ t, exec .crcBlock s = .next t ∧ exec .crcBlock t = .next t

/-- O30. Every change to exactly one byte of BLK[0..253] changes the trailer (R305). -/
def Obligations.OneByteChangesTrailer : Prop :=
  ∀ (s s' : State) (a : Nat), s.lineValid = 0xFFFF → s'.lineValid = 0xFFFF → a < 254 →
    s.blk.read a ≠ s'.blk.read a → (∀ o, o < 254 → o ≠ a → s.blk.read o = s'.blk.read o) →
    ∃ t t', exec .crcBlock s = .next t ∧ exec .crcBlock s' = .next t' ∧
      (t.blk.read 254, t.blk.read 255) ≠ (t'.blk.read 254, t'.blk.read 255)

/-- O31. BLK_WRITE writes one line and marks it in LINE_VALID (R340). -/
def Obligations.BlkWriteWrites : Prop :=
  ∀ (s : State) (line : Byte) (data : Payload),
    (line.toNat ≤ 15 →
      ∃ (m : Memory) (valid : BitVec 16),
        (∀ a, m.read a =
          if 16 * line.toNat ≤ a ∧ a < 16 * line.toNat + 16 then data.toList.getD (a - 16 * line.toNat) 0
          else s.blk.read a) ∧
        (∀ k, k < 16 → valid.getLsbD k = (s.lineValid.getLsbD k || decide (k = line.toNat))) ∧
        exec (.blkWrite line data) s = .next { s with blk := m, lineValid := valid, res := okWith [] }) ∧
    (15 < line.toNat → SequencerIdle s → Refuses (.blkWrite line data) s .badOperand 1)

/-- O32. BLK_READ returns one written line, and refuses a line that was not written (R341). -/
def Obligations.BlkReadReads : Prop :=
  ∀ (s : State) (line : Byte),
    (line.toNat ≤ 15 → s.lineValid.getLsbD line.toNat = true →
      exec (.blkRead line) s =
        .next { s with res := okWith ((List.range 16).map fun j => s.blk.read (16 * line.toNat + j)) }) ∧
    (15 < line.toNat → SequencerIdle s → Refuses (.blkRead line) s .badOperand 1) ∧
    (line.toNat ≤ 15 → s.lineValid.getLsbD line.toNat = false → SequencerIdle s →
      Refuses (.blkRead line) s .blockIncomplete line)

/-- O33. A line written by BLK_WRITE is what BLK_READ then returns, and other written lines read as before (R340,
R341). -/
def Obligations.BlkWriteThenRead : Prop :=
  ∀ (s : State) (line other : Byte) (data : Payload), line.toNat ≤ 15 → other.toNat ≤ 15 →
    (∃ t, execAll [.blkWrite line data, .blkRead line] s = .next t ∧ t.res = okWith data.toList) ∧
    (other ≠ line → s.lineValid.getLsbD other.toNat = true →
      ∃ t u, execAll [.blkWrite line data, .blkRead other] s = .next t ∧ exec (.blkRead other) s = .next u ∧
        t.res = u.res)

/-- O34. BLK_BUILD makes the configuration block from its fields, byte for byte (R342). -/
def Obligations.BlkBuildBuilds : Prop :=
  ∀ (s : State) (poll : Byte) (d0 d1 d2 d3 d4 : Half) (profile : Byte),
    (1 ≤ poll.toNat → poll.toNat ≤ 4 → 1 ≤ profile.toNat → profile.toNat ≤ 9 →
      ∃ m : Memory, (∀ a, a < 256 → m.read a = builtByte s.par poll [d0, d1, d2, d3, d4] profile a) ∧
        exec (.blkBuild poll d0 d1 d2 d3 d4 profile) s =
          .next { s with blk := m, lineValid := 0xFFFF, res := okWith [] }) ∧
    (poll.toNat < 1 ∨ 4 < poll.toNat → SequencerIdle s →
      Refuses (.blkBuild poll d0 d1 d2 d3 d4 profile) s .badOperand 1) ∧
    (1 ≤ poll.toNat → poll.toNat ≤ 4 → profile.toNat < 1 ∨ 9 < profile.toNat → SequencerIdle s →
      Refuses (.blkBuild poll d0 d1 d2 d3 d4 profile) s .badOperand 12)

/-- O35. A command that needs an unwritten line ends with BLOCK_INCOMPLETE and touches nothing (R505). -/
def Obligations.IncompleteBlocksAreRefused : Prop :=
  ∀ (s : State) (k : Nat) (profile widmode wid line : Byte), SequencerIdle s →
    (LowestUnwritten s k →
      Refuses .crcBlock s .blockIncomplete (BitVec.ofNat 8 k) ∧
      (Ready s → widmode.toNat ≤ 1 →
        Refuses (.seqRecordPass profile widmode wid) s .blockIncomplete (BitVec.ofNat 8 k)) ∧
      (Ready s → Refuses (.seqWriteConfig profile) s .blockIncomplete (BitVec.ofNat 8 k))) ∧
    (line.toNat ≤ 15 → s.lineValid.getLsbD line.toNat = false → Refuses (.blkRead line) s .blockIncomplete line)

/-- O36. Every sequencer step makes the transport call and the transition the table gives its phase (R390). -/
def Obligations.TransitionTable : Prop :=
  ∀ s : State, Transition s (seqStep s)

/-- O37. A failed or empty transport call in a sequencer step raises TRANSPORT_ERROR at its phase, pass and line
(R501, R510, R516, R517, R380, R395). -/
def Obligations.StepsRaisePrecisely : Prop :=
  ∀ s : State,
    (s.seq.phase = .qTx ∨ s.seq.phase = .bTx ∨ s.seq.phase = .lTx ∨ s.seq.phase = .eTx →
      SendFails s (stepFrame s) →
      RaisedAt s (seqStep s) .transportError 1 ∧
      ∃ buf : FrameBuf, Carries (stepFrame s) s.obuf.toList buf ∧
        seqStep s =
          raisedInStep { withPort s ((portOf s).afterOut (outCall s (stepFrame s))) with
            obuf := buf
            olen := if (stepFrame s).length = 7 then .short else .long
            seq := { s.seq with disc := if s.seq.phase = .qTx then 0 else s.seq.disc } } .transportError 1) ∧
    (s.seq.phase = .qRx ∨ s.seq.phase = .bRx ∨ s.seq.phase = .lRx ∨ s.seq.phase = .eRx →
      (portOf s).answerRead (inCall s s.par.timeout) = .fail →
      RaisedAt s (seqStep s) .transportError 2 ∧
      seqStep s =
        raisedInStep (withPort s ((portOf s).afterIn (inCall s s.par.timeout))) .transportError 2) ∧
    (s.seq.phase = .bRx ∨ s.seq.phase = .lRx ∨ s.seq.phase = .eRx →
      (portOf s).answerRead (inCall s s.par.timeout) = .ok [] →
      RaisedAt s (seqStep s) .transportError 3 ∧
      ∃ (ibuf : FrameBuf) (free : Nat),
        seqStep s =
          raisedInStep { withPort s ((portOf s).afterIn (inCall s s.par.timeout)) with
            ibuf := ibuf, ilen := 0, free := free } .transportError 3)

/-- O38. The status query raises PROTOCOL_MISMATCH in its four cases, and only it does (R502, R255). The model's
choices in it: logs 2, 19 and 34. -/
def Obligations.QueryMismatches : Prop :=
  (∀ (s : State) (bytes : List Byte), s.seq.phase = .qRx →
    (portOf s).answerRead (inCall s s.par.timeout) = .ok bytes →
    (bytes.length = 0 → RaisedAt s (seqStep s) .protocolMismatch 0) ∧
    (1 ≤ bytes.length → bytes.length ≤ 3 → RaisedAt s (seqStep s) .protocolMismatch 1) ∧
    (4 ≤ bytes.length → bytes.getD 3 0 = 0 → s.par.maxDiscard ≤ s.seq.disc →
      RaisedAt s (seqStep s) .protocolMismatch 2) ∧
    (4 ≤ bytes.length → bytes.length < 20 → bytes.getD 3 0 ≠ 0 → RaisedAt s (seqStep s) .protocolMismatch 3)) ∧
  (∀ (i : Instr) (s t : State), exec i s = .next t → t.res.code = .protocolMismatch → runsQuery i = true)

/-- O39. SEQ_QUERY_STATUS skips discard frames and decodes the first candidate frame as the status (R380, R381,
R382, R385, R391, R395). -/
def Obligations.QueryStatusCompletes : Prop :=
  ∀ (s : State) (q : Query) (p : Port), Ready s → q.Good s.par →
    exchanges s (portOf s) (q.exchanges (statusBytes s)) = some p →
    ∃ (buf ibuf : FrameBuf) (ilen : Fin 21) (free : Nat),
      Carries (statusBytes s) s.obuf.toList buf ∧ Received q.candidate ibuf ilen ∧
      exec .seqQueryStatus s =
        .next { withPort s p with
          obuf := buf, olen := .short, ibuf := ibuf, ilen := ilen, free := free
          st := statusOf q.candidate
          seq := { s.seq with op := .none, phase := .idle, pass := 0, disc := q.discards.length }
          res := ⟨statusCode (statusOf q.candidate), ⟨0, 0, 0, 0⟩, statusData (statusOf q.candidate)⟩ }

/-- O40. SEQ_RECORD_PASS sends Begin, the 16 lines in order and End: 18 frames and 20 reads (R380, R383, R385, R391,
R395, R306). -/
def Obligations.RecordPassCompletes : Prop :=
  ∀ (s : State) (profile widmode wid : Byte),
    (SequencerIdle s → Ready s → 1 < widmode.toNat → Refuses (.seqRecordPass profile widmode wid) s .badOperand 2) ∧
    (∀ (response : Nat → List Byte) (block : Nat → Byte) (p : Port),
      Ready s → widmode.toNat ≤ 1 → s.lineValid = 0xFFFF → (∀ i, i < 20 → response i ≠ []) →
      block = passBlock s.par (if widmode = 1 then some wid else none) s.blk.read →
      exchanges s (portOf s) (passExchanges s profile block response) = some p →
      (framesSent p.history).length = (framesSent s.history).length + 18 ∧
      readsMade p.history = readsMade s.history + 20 ∧
      ∃ (m : Memory) (buf ibuf : FrameBuf) (ilen : Fin 21) (free : Nat),
        (∀ a, m.read a = block a) ∧
        Carries (endBytes s) (lineBytes s block 15) buf ∧ Received (response 19) ibuf ilen ∧
        exec (.seqRecordPass profile widmode wid) s =
          .next { withPort s p with
            obuf := buf, olen := .short, ibuf := ibuf, ilen := ilen, free := free
            crc := checksumOf block
            blk := m
            seq := { s.seq with
              op := .none, phase := .idle, pass := 0, passes := 1, line := 16, rxleft := 0, tgt := profile
              wid := if widmode = 1 then wid else s.seq.wid
              widbase := wid
              widmode := decide (widmode = 1)
              endSt1 := statusOf (response 17)
              endSt2 := ⟨false, 0, 0⟩ }
            res := ⟨statusCode (statusOf (response 17)), ⟨0, 0, 0, 0⟩,
              statusData (statusOf (response 17)) ++ [0, 0, 0]⟩ })

/-- O41. SEQ_WRITE_CONFIG with a profile runs both passes in full, with write-ids 0x1C and 0x1D (R380, R384, R385,
R391, R392, R395). The model's choices in it: log 32. -/
def Obligations.WriteConfigTwoPasses : Prop :=
  ∀ (s : State) (profile : Byte) (response1 response2 : Nat → List Byte) (block1 block2 : Nat → Byte) (p : Port),
    Ready s → s.lineValid = 0xFFFF → profile ≠ 0 →
    (∀ i, i < 20 → response1 i ≠ [] ∧ response2 i ≠ []) →
    block1 = passBlock s.par (some 0x1C) s.blk.read →
    block2 = passBlock s.par (some 0x1D) block1 →
    exchanges s (portOf s) (passExchanges s profile block1 response1 ++ passExchanges s profile block2 response2) =
      some p →
    (framesSent p.history).length = (framesSent s.history).length + 36 ∧
    readsMade p.history = readsMade s.history + 40 ∧
    ∃ (m : Memory) (buf ibuf : FrameBuf) (ilen : Fin 21) (free : Nat),
      (∀ a, m.read a = block2 a) ∧
      Carries (endBytes s) (lineBytes s block2 15) buf ∧ Received (response2 19) ibuf ilen ∧
      exec (.seqWriteConfig profile) s =
        .next { withPort s p with
          obuf := buf, olen := .short, ibuf := ibuf, ilen := ilen, free := free
          crc := checksumOf block2
          blk := m
          seq := { s.seq with
            op := .none, phase := .idle, pass := 0, passes := 2, line := 16, rxleft := 0, tgt := profile
            wid := 0x1D, widbase := 0x1C, widmode := true, polls := 0
            endSt1 := statusOf (response1 17)
            endSt2 := statusOf (response2 17) }
          res := ⟨statusCode (statusOf (response2 17)), ⟨0, 0, 0, 0⟩,
            statusData (statusOf (response1 17)) ++ statusData (statusOf (response2 17))⟩ }

/-- O42. SEQ_WRITE_CONFIG 0 polls until a profile is reported and writes to that profile (R380, R384, R385, R391,
R392, R393). The model's choices in it: log 32. -/
def Obligations.WriteConfigPolls : Prop :=
  ∀ (s : State) (zeros : List Query) (last : Query) (response1 response2 : Nat → List Byte)
    (block1 block2 : Nat → Byte) (p : Port),
    Ready s → s.lineValid = 0xFFFF →
    (∀ q ∈ zeros, q.Good s.par ∧ q.prof = 0) → last.Good s.par → last.prof ≠ 0 →
    zeros.length + 1 ≤ s.par.maxPolls →
    (∀ i, i < 20 → response1 i ≠ [] ∧ response2 i ≠ []) →
    block1 = passBlock s.par (some 0x1C) s.blk.read →
    block2 = passBlock s.par (some 0x1D) block1 →
    exchanges s (portOf s)
      ((zeros ++ [last]).flatMap (fun q => q.exchanges (statusBytes s))
        ++ passExchanges s last.prof block1 response1 ++ passExchanges s last.prof block2 response2) = some p →
    ∃ (m : Memory) (buf ibuf : FrameBuf) (ilen : Fin 21) (free : Nat),
      (∀ a, m.read a = block2 a) ∧
      Carries (endBytes s) (lineBytes s block2 15) buf ∧ Received (response2 19) ibuf ilen ∧
      exec (.seqWriteConfig 0) s =
        .next { withPort s p with
          obuf := buf, olen := .short, ibuf := ibuf, ilen := ilen, free := free
          crc := checksumOf block2
          blk := m
          st := statusOf last.candidate
          seq := { s.seq with
            op := .none, phase := .idle, pass := 0, passes := 2, line := 16, rxleft := 0, tgt := last.prof
            wid := 0x1D, widbase := 0x1C, widmode := true, polls := zeros.length + 1, disc := last.discards.length
            endSt1 := statusOf (response1 17)
            endSt2 := statusOf (response2 17) }
          res := ⟨statusCode (statusOf (response2 17)), ⟨0, 0, 0, 0⟩,
            statusData (statusOf (response1 17)) ++ statusData (statusOf (response2 17))⟩ }

/-- O43. P_MAX_PROFILE_POLLS queries that all report profile 0 end SEQ_WRITE_CONFIG 0 before any Begin (R509). -/
def Obligations.PollExhausted : Prop :=
  ∀ (s : State) (queries : List Query) (p : Port), Ready s → s.lineValid = 0xFFFF →
    (∀ q ∈ queries, q.Good s.par ∧ q.prof = 0) → queries.length = s.par.maxPolls →
    exchanges s (portOf s) (queries.flatMap fun q => q.exchanges (statusBytes s)) = some p →
    framesSent p.history = framesSent s.history ++ List.replicate s.par.maxPolls (statusBytes s) ∧
    ∃ t, exec (.seqWriteConfig 0) s = .next t ∧
      t.res = ⟨.profilePollExhausted, ⟨2, 0, s.seq.line.setWidth 8, BitVec.ofNat 8 s.par.maxPolls⟩, []⟩ ∧
      portOf t = p ∧ t.ses = s.ses ∧ t.blk = s.blk ∧ t.crc = s.crc ∧ t.lineValid = s.lineValid ∧
      t.seq.polls = s.par.maxPolls ∧ t.seq.op = .none ∧ t.seq.phase = .idle ∧ t.seq.pass = 0

/-- O44. Every sequencer command comes to IDLE within the step bound, whatever the transport answers (R394, R380,
R393). -/
def Obligations.SequencerStepBound : Prop :=
  ∀ (s : State) (profile widmode wid : Byte),
    ∀ start ∈ [startQuery s, startPass profile widmode wid s, startWrite profile s],
      ∃ n, n ≤ s.par.maxPolls * (s.par.maxDiscard + 2) + 2 * 39 ∧ (seqStep^[n] start).seq.phase = .idle

/-- O45. Every instruction completes: exec answers a next state with an idle sequencer (R380, R394, R95, R510). -/
def Obligations.EveryInstructionEnds : Prop :=
  ∀ (i : Instr) (s : State), SequencerIdle s → ∃ t, exec i s = .next t ∧ SequencerIdle t

/-- O46. Only the commands of the access summary write each piece of state (R59, R512, R37). The model's choices in
it: logs 2, 18 and 34. -/
def Obligations.WhoWritesWhat : Prop :=
  ∀ (i : Instr) (s t : State), SequencerIdle s → exec i s = .next t →
    (writesSession i = false →
      t.ses = { s.ses with fatal := t.ses.fatal } ∧ (t.ses.fatal ≠ s.ses.fatal → t.res.code = .transportError)) ∧
    (writesObuf i = false → t.obuf = s.obuf ∧ t.olen = s.olen) ∧
    (writesIbuf i = false → t.ibuf = s.ibuf ∧ t.ilen = s.ilen) ∧
    (writesCrc i = false → t.crc = s.crc) ∧
    (writesBlk i = false → t.blk = s.blk) ∧
    (writesLineValid i = false → t.lineValid = s.lineValid) ∧
    (writesStatus i = false → t.st = s.st) ∧
    (writesSeq i = false → t.seq = s.seq) ∧
    (usesTransport i = false → t.history = s.history)

/-- O47. The history only grows, a written line stays written, and no instruction changes the parameters (R92, R95,
R42, R9). The model's choices in it: logs 1 and 5. -/
def Obligations.HistoryOnlyGrows : Prop :=
  ∀ (i : Instr) (s t : State), exec i s = .next t →
    s.history <+: t.history ∧ (∀ k, s.lineValid.getLsbD k = true → t.lineValid.getLsbD k = true) ∧
    t.par = s.par ∧ t.prog = s.prog ∧ t.pos = s.pos

/-- O48. RES_INFO is zero after OK and DEVICE_REJECTED, and every other code ends without data (R54, R510, R514,
R255, R259). The model's choices in it: logs 2, 18, 19 and 34. -/
def Obligations.ResultRegisters : Prop :=
  ∀ (i : Instr) (s t : State), exec i s = .next t →
    (t.res.code = .ok ∨ t.res.code = .deviceRejected → t.res.info = ⟨0, 0, 0, 0⟩) ∧
    (t.res.code ≠ .ok → t.res.code ≠ .deviceRejected → t.res.data = []) ∧
    t.res.data.length ≤ 16 ∧
    (t.res.code = .deviceRejected → mayBeRejected i = true ∧ t.ses.fatal = s.ses.fatal ∧ t.res.data ≠ [])

/-- O49. A wire frame without a response rule is built in OBUF and sent, and nothing is read (R250, R251, R252,
R256, R260, R261, R204). The model's choices in it: log 2, log 22. -/
def Obligations.EmitOnlyFramesSend : Prop :=
  ∀ (s : State) (dev feat : Byte) (sw : Nibble) (a b c : Byte) (payload : Payload), Ready s → sw ≠ 0 →
    (∀ p ∈ ([(0x0, .rootShort dev feat sw a b c), (0x1, .getFeatureShort dev feat sw a b c),
        (0x2, .connCheckShort dev feat sw a b c), (0x5, .readRecordShort dev feat sw a b c),
        (0x6, .startRecordShort dev feat sw a b c), (0x7, .writeRecordShort dev feat sw a b c),
        (0xB, .errBShort dev feat sw a b c), (0xC, .errCShort dev feat sw a b c)] : List (Byte × Instr)),
      EmitsOnly p.2 s .short (shortBytes dev feat p.1 (sw.setWidth 8) a b c)) ∧
    (∀ p ∈ ([(0x0, .rootLong dev feat sw payload), (0x1, .getFeatureLong dev feat sw payload),
        (0x2, .connCheckLong dev feat sw payload), (0x4, .statusLong dev feat sw payload),
        (0x5, .readRecordLong dev feat sw payload), (0x8, .endRecordLong dev feat sw payload),
        (0xB, .errBLong dev feat sw payload), (0xC, .errCLong dev feat sw payload)] : List (Byte × Instr)),
      EmitsOnly p.2 s .long (longBytes dev feat p.1 (sw.setWidth 8) payload.toList))

/-- O50. A wire frame with software id 0 is not built, and one in a session that is not ready is not sent (R250,
R504, R512). The model's choices in it: logs 2 and 19. -/
def Obligations.WireFramesAreRefused : Prop :=
  ∀ (s : State) (dev feat : Byte) (sw : Nibble) (a b c : Byte) (payload : Payload), SequencerIdle s →
    (∀ p ∈ shortFrames dev feat sw a b c,
      NotSent p.2 s sw .short (shortBytes dev feat p.1 (sw.setWidth 8) a b c)) ∧
    (∀ p ∈ longFrames dev feat sw payload,
      NotSent p.2 s sw .long (longBytes dev feat p.1 (sw.setWidth 8) payload.toList))

/-- O51. PROFILE_SWITCH.short sends its frame and reads three responses (R253, R204, R205, R441, R501, R510). The
model's choices in it: log 2, log 30, log 33. -/
def Obligations.ProfileSwitchReads : Prop :=
  ∀ (s : State) (dev feat : Byte) (sw : Nibble) (a b c : Byte) (frame : List Byte), Ready s → sw ≠ 0 →
    frame = shortBytes dev feat 0x3 (sw.setWidth 8) a b c →
    (∀ (r1 r2 r3 : List Byte) (p : Port), r1 ≠ [] → r2 ≠ [] → r3 ≠ [] →
      exchanges s (portOf s) [.sent frame, .got r1, .got r2, .got r3] = some p →
      ∃ (buf ibuf : FrameBuf) (ilen : Fin 21) (free : Nat),
        Carries frame s.obuf.toList buf ∧ Received r3 ibuf ilen ∧
        exec (.profileSwitchShort dev feat sw a b c) s =
          .next { withTraffic s p buf .short ibuf ilen free with res := okWith [BitVec.ofNat 8 r3.length] }) ∧
    FailedSendRaises (.profileSwitchShort dev feat sw a b c) s .short frame ∧
    FailedReadRaises (.profileSwitchShort dev feat sw a b c) s .short frame 3 (fun _ => s) ∧
    EmptyReadEnds (.profileSwitchShort dev feat sw a b c) s .short frame 3 (fun _ => s)
      (fun t => { t with res := okWith [0] })

/-- O52. SET_COLOR.long sends its frame and reads P_LED_RESPONSES responses (R254, R204, R205, R444, R501, R510).
The model's choices in it: log 2, log 30, log 33. -/
def Obligations.SetColorReads : Prop :=
  ∀ (s : State) (dev feat : Byte) (sw : Nibble) (payload : Payload) (frame : List Byte), Ready s → sw ≠ 0 →
    frame = longBytes dev feat 0x3 (sw.setWidth 8) payload.toList →
    (∀ (responses : List (List Byte)) (p : Port), responses.length = s.par.ledResponses → (∀ r ∈ responses, r ≠ []) →
      exchanges s (portOf s) (.sent frame :: responses.map .got) = some p →
      ∃ (buf ibuf : FrameBuf) (ilen : Fin 21) (free : Nat),
        Carries frame s.obuf.toList buf ∧ HoldsLast s responses ibuf ilen ∧
        exec (.setColorLong dev feat sw payload) s =
          .next { withTraffic s p buf .long ibuf ilen free with
            res := okWith (match responses.getLast? with
              | some last => [BitVec.ofNat 8 last.length]
              | none => []) }) ∧
    FailedSendRaises (.setColorLong dev feat sw payload) s .long frame ∧
    FailedReadRaises (.setColorLong dev feat sw payload) s .long frame s.par.ledResponses (fun _ => s) ∧
    EmptyReadEnds (.setColorLong dev feat sw payload) s .long frame s.par.ledResponses (fun _ => s)
      (fun t => { t with res := okWith [0] })

/-- O53. START_RECORD.long and WRITE_RECORD.long send their frame and need one response that is not empty (R257,
R258, R204, R205, R501, R510). The model's choices in it: log 2, log 21. -/
def Obligations.BeginAndWriteFramesPace : Prop :=
  ∀ (s : State) (dev feat : Byte) (sw : Nibble) (payload : Payload), Ready s → sw ≠ 0 →
    ∀ i ∈ ([(0x6, .startRecordLong dev feat sw payload), (0x7, .writeRecordLong dev feat sw payload)]
        : List (Byte × Instr)),
    ∀ frame : List Byte, frame = longBytes dev feat i.1 (sw.setWidth 8) payload.toList →
    (∀ (response : List Byte) (p : Port), response ≠ [] →
      exchanges s (portOf s) [.sent frame, .got response] = some p →
      ∃ (buf ibuf : FrameBuf) (ilen : Fin 21) (free : Nat),
        Carries frame s.obuf.toList buf ∧ Received response ibuf ilen ∧
        exec i.2 s =
          .next { withTraffic s p buf .long ibuf ilen free with res := okWith [BitVec.ofNat 8 response.length] }) ∧
    FailedSendRaises i.2 s .long frame ∧
    FailedReadRaises i.2 s .long frame 1 (fun _ => s) ∧
    EmptyReadEnds i.2 s .long frame 1 (fun _ => s) (fun t => transportFailed t 3)

/-- O54. END_RECORD.short sends its frame, reads three responses and decodes the first as a status (R259, R385,
R514, R204, R205, R501, R510). The model's choices in it: log 2, log 18, log 21. -/
def Obligations.EndFrameReportsStatus : Prop :=
  ∀ (s : State) (dev feat : Byte) (sw : Nibble) (a b c : Byte) (frame : List Byte), Ready s → sw ≠ 0 →
    frame = shortBytes dev feat 0x8 (sw.setWidth 8) a b c →
    (∀ (r1 r2 r3 : List Byte) (p : Port), r1 ≠ [] → r2 ≠ [] → r3 ≠ [] →
      exchanges s (portOf s) [.sent frame, .got r1, .got r2, .got r3] = some p →
      ∃ (buf ibuf : FrameBuf) (ilen : Fin 21) (free : Nat),
        Carries frame s.obuf.toList buf ∧ Received r3 ibuf ilen ∧
        exec (.endRecordShort dev feat sw a b c) s =
          .next { withTraffic (withEndStatus s [r1]) p buf .short ibuf ilen free with
            res := ⟨statusCode (statusOf r1), ⟨0, 0, 0, 0⟩, statusData (statusOf r1)⟩ }) ∧
    FailedSendRaises (.endRecordShort dev feat sw a b c) s .short frame ∧
    FailedReadRaises (.endRecordShort dev feat sw a b c) s .short frame 3 (withEndStatus s) ∧
    EmptyReadEnds (.endRecordShort dev feat sw a b c) s .short frame 3 (withEndStatus s) (fun t => transportFailed t 3)

/-- O55. STATUS.short runs the status query with its own frame (R255, R380, R381, R385, R501, R502, R510, R516). The
model's choices in it: logs 2, 19 and 34. -/
def Obligations.StatusFrameQueries : Prop :=
  ∀ (s : State) (dev feat : Byte) (sw : Nibble) (a b c : Byte) (frame : List Byte), Ready s → sw ≠ 0 →
    frame = shortBytes dev feat 0x4 (sw.setWidth 8) a b c →
    (∀ (q : Query) (p : Port), q.Good s.par → exchanges s (portOf s) (q.exchanges frame) = some p →
      ∃ (buf ibuf : FrameBuf) (ilen : Fin 21) (free : Nat),
        Carries frame s.obuf.toList buf ∧ Received q.candidate ibuf ilen ∧
        exec (.statusShort dev feat sw a b c) s =
          .next { withTraffic s p buf .short ibuf ilen free with
            st := statusOf q.candidate
            seq := { s.seq with op := .none, phase := .idle, pass := 0, disc := q.discards.length }
            res := ⟨statusCode (statusOf q.candidate), ⟨0, 0, 0, 0⟩, statusData (statusOf q.candidate)⟩ }) ∧
    (SendFails s frame → ∃ buf : FrameBuf, Carries frame s.obuf.toList buf ∧
      exec (.statusShort dev feat sw a b c) s =
        .next (raisedInStep
          (inQuery (withFrame (withPort s ((portOf s).afterOut (outCall s frame))) buf .short) .qTx 0)
          .transportError 1)) ∧
    (∀ (discards : List (List Byte)) (p : Port), discards.length ≤ s.par.maxDiscard →
      (∀ d ∈ discards, 4 ≤ d.length ∧ d.getD 3 0 = 0) →
      exchanges s (portOf s) (.sent frame :: discards.map .got) = some p →
      (p.answerRead (inCall s s.par.timeout) = .fail →
        ∃ (buf ibuf : FrameBuf) (ilen : Fin 21) (free : Nat),
          Carries frame s.obuf.toList buf ∧ HoldsLast s discards ibuf ilen ∧
          exec (.statusShort dev feat sw a b c) s =
            .next (raisedInStep
              (inQuery (withTraffic s (p.afterIn (inCall s s.par.timeout)) buf .short ibuf ilen free) .qRx
                discards.length)
              .transportError 2)) ∧
      (∀ (bytes : List Byte) (aux : Byte), p.answerRead (inCall s s.par.timeout) = .ok bytes →
        mismatchAux s.par discards.length bytes = some aux →
        ∃ (buf ibuf : FrameBuf) (ilen : Fin 21) (free : Nat),
          Carries frame s.obuf.toList buf ∧ Received bytes ibuf ilen ∧
          exec (.statusShort dev feat sw a b c) s =
            .next (raisedInStep
              (inQuery (withTraffic s (p.afterIn (inCall s s.par.timeout)) buf .short ibuf ilen free) .qRx
                (discards.length + (if aux = 2 then 1 else 0)))
              .protocolMismatch aux)))

/-- O56. STATUS.short with the block's own frame does exactly what SEQ_QUERY_STATUS does (R255, R381, R382, R132).
The model's choices in it: logs 2, 19 and 34. -/
def Obligations.StatusFrameIsTheQuery : Prop :=
  ∀ s : State, Ready s → s.ses.swid ≠ 0 →
    exec (.statusShort 0xFF s.par.featProfile s.ses.swid s.par.statusA s.par.statusB s.par.statusC) s =
      exec .seqQueryStatus s

end
end

