-- ==== Sys2Proof/Laws/State.lean ====
section
/-! SUPPORT. What each named update of the state does to each field: one lemma per field per update, proved
once, so that no later proof unfolds a record update. -/

namespace Sys2Proof.Machine

/-! ## loadFrame -/

@[simp] theorem loadFrame_ses (len : OutLen) (frame : List Byte) (s : State) : (loadFrame len frame s).ses = s.ses := rfl
@[simp] theorem loadFrame_obuf (len : OutLen) (frame : List Byte) (s : State) : (loadFrame len frame s).obuf = overlay s.obuf frame := rfl
@[simp] theorem loadFrame_olen (len : OutLen) (frame : List Byte) (s : State) : (loadFrame len frame s).olen = len := rfl
@[simp] theorem loadFrame_ibuf (len : OutLen) (frame : List Byte) (s : State) : (loadFrame len frame s).ibuf = s.ibuf := rfl
@[simp] theorem loadFrame_ilen (len : OutLen) (frame : List Byte) (s : State) : (loadFrame len frame s).ilen = s.ilen := rfl
@[simp] theorem loadFrame_crc (len : OutLen) (frame : List Byte) (s : State) : (loadFrame len frame s).crc = s.crc := rfl
@[simp] theorem loadFrame_blk (len : OutLen) (frame : List Byte) (s : State) : (loadFrame len frame s).blk = s.blk := rfl
@[simp] theorem loadFrame_lineValid (len : OutLen) (frame : List Byte) (s : State) : (loadFrame len frame s).lineValid = s.lineValid := rfl
@[simp] theorem loadFrame_st (len : OutLen) (frame : List Byte) (s : State) : (loadFrame len frame s).st = s.st := rfl
@[simp] theorem loadFrame_seq (len : OutLen) (frame : List Byte) (s : State) : (loadFrame len frame s).seq = s.seq := rfl
@[simp] theorem loadFrame_res (len : OutLen) (frame : List Byte) (s : State) : (loadFrame len frame s).res = s.res := rfl
@[simp] theorem loadFrame_history (len : OutLen) (frame : List Byte) (s : State) : (loadFrame len frame s).history = s.history := rfl
@[simp] theorem loadFrame_par (len : OutLen) (frame : List Byte) (s : State) : (loadFrame len frame s).par = s.par := rfl
@[simp] theorem loadFrame_writeScript (len : OutLen) (frame : List Byte) (s : State) : (loadFrame len frame s).writeScript = s.writeScript := rfl
@[simp] theorem loadFrame_readScript (len : OutLen) (frame : List Byte) (s : State) : (loadFrame len frame s).readScript = s.readScript := rfl
@[simp] theorem loadFrame_free (len : OutLen) (frame : List Byte) (s : State) : (loadFrame len frame s).free = s.free := rfl
@[simp] theorem loadFrame_prog (len : OutLen) (frame : List Byte) (s : State) : (loadFrame len frame s).prog = s.prog := rfl
@[simp] theorem loadFrame_pos (len : OutLen) (frame : List Byte) (s : State) : (loadFrame len frame s).pos = s.pos := rfl

/-! ## storeInbound -/

@[simp] theorem storeInbound_ses (bytes : List Byte) (s : State) : (storeInbound bytes s).ses = s.ses := rfl
@[simp] theorem storeInbound_obuf (bytes : List Byte) (s : State) : (storeInbound bytes s).obuf = s.obuf := rfl
@[simp] theorem storeInbound_olen (bytes : List Byte) (s : State) : (storeInbound bytes s).olen = s.olen := rfl
@[simp] theorem storeInbound_crc (bytes : List Byte) (s : State) : (storeInbound bytes s).crc = s.crc := rfl
@[simp] theorem storeInbound_blk (bytes : List Byte) (s : State) : (storeInbound bytes s).blk = s.blk := rfl
@[simp] theorem storeInbound_lineValid (bytes : List Byte) (s : State) : (storeInbound bytes s).lineValid = s.lineValid := rfl
@[simp] theorem storeInbound_st (bytes : List Byte) (s : State) : (storeInbound bytes s).st = s.st := rfl
@[simp] theorem storeInbound_seq (bytes : List Byte) (s : State) : (storeInbound bytes s).seq = s.seq := rfl
@[simp] theorem storeInbound_res (bytes : List Byte) (s : State) : (storeInbound bytes s).res = s.res := rfl
@[simp] theorem storeInbound_history (bytes : List Byte) (s : State) : (storeInbound bytes s).history = s.history := rfl
@[simp] theorem storeInbound_par (bytes : List Byte) (s : State) : (storeInbound bytes s).par = s.par := rfl
@[simp] theorem storeInbound_writeScript (bytes : List Byte) (s : State) : (storeInbound bytes s).writeScript = s.writeScript := rfl
@[simp] theorem storeInbound_readScript (bytes : List Byte) (s : State) : (storeInbound bytes s).readScript = s.readScript := rfl
@[simp] theorem storeInbound_free (bytes : List Byte) (s : State) : (storeInbound bytes s).free = s.free + 20 := rfl
@[simp] theorem storeInbound_prog (bytes : List Byte) (s : State) : (storeInbound bytes s).prog = s.prog := rfl
@[simp] theorem storeInbound_pos (bytes : List Byte) (s : State) : (storeInbound bytes s).pos = s.pos := rfl

/-! ## raise -/

@[simp] theorem raise_ses (site : RaiseSite) (code : ResultCode) (aux : Byte) (s : State) : (raise site code aux s).ses = { s.ses with fatal := s.ses.fatal || code = .transportError } := rfl
@[simp] theorem raise_obuf (site : RaiseSite) (code : ResultCode) (aux : Byte) (s : State) : (raise site code aux s).obuf = s.obuf := rfl
@[simp] theorem raise_olen (site : RaiseSite) (code : ResultCode) (aux : Byte) (s : State) : (raise site code aux s).olen = s.olen := rfl
@[simp] theorem raise_ibuf (site : RaiseSite) (code : ResultCode) (aux : Byte) (s : State) : (raise site code aux s).ibuf = s.ibuf := rfl
@[simp] theorem raise_ilen (site : RaiseSite) (code : ResultCode) (aux : Byte) (s : State) : (raise site code aux s).ilen = s.ilen := rfl
@[simp] theorem raise_crc (site : RaiseSite) (code : ResultCode) (aux : Byte) (s : State) : (raise site code aux s).crc = s.crc := rfl
@[simp] theorem raise_blk (site : RaiseSite) (code : ResultCode) (aux : Byte) (s : State) : (raise site code aux s).blk = s.blk := rfl
@[simp] theorem raise_lineValid (site : RaiseSite) (code : ResultCode) (aux : Byte) (s : State) : (raise site code aux s).lineValid = s.lineValid := rfl
@[simp] theorem raise_st (site : RaiseSite) (code : ResultCode) (aux : Byte) (s : State) : (raise site code aux s).st = s.st := rfl
@[simp] theorem raise_seq (site : RaiseSite) (code : ResultCode) (aux : Byte) (s : State) : (raise site code aux s).seq = { s.seq with op := .none, phase := .idle, pass := 0 } := rfl
@[simp] theorem raise_res (site : RaiseSite) (code : ResultCode) (aux : Byte) (s : State) : (raise site code aux s).res = ⟨code, faultRecord site aux s, []⟩ := rfl
@[simp] theorem raise_history (site : RaiseSite) (code : ResultCode) (aux : Byte) (s : State) : (raise site code aux s).history = s.history := rfl
@[simp] theorem raise_par (site : RaiseSite) (code : ResultCode) (aux : Byte) (s : State) : (raise site code aux s).par = s.par := rfl
@[simp] theorem raise_writeScript (site : RaiseSite) (code : ResultCode) (aux : Byte) (s : State) : (raise site code aux s).writeScript = s.writeScript := rfl
@[simp] theorem raise_readScript (site : RaiseSite) (code : ResultCode) (aux : Byte) (s : State) : (raise site code aux s).readScript = s.readScript := rfl
@[simp] theorem raise_free (site : RaiseSite) (code : ResultCode) (aux : Byte) (s : State) : (raise site code aux s).free = s.free := rfl
@[simp] theorem raise_prog (site : RaiseSite) (code : ResultCode) (aux : Byte) (s : State) : (raise site code aux s).prog = s.prog := rfl
@[simp] theorem raise_pos (site : RaiseSite) (code : ResultCode) (aux : Byte) (s : State) : (raise site code aux s).pos = s.pos := rfl

/-! ## finish -/

@[simp] theorem finish_ses (code : ResultCode) (data : List Byte) (s : State) : (finish code data s).ses = s.ses := rfl
@[simp] theorem finish_obuf (code : ResultCode) (data : List Byte) (s : State) : (finish code data s).obuf = s.obuf := rfl
@[simp] theorem finish_olen (code : ResultCode) (data : List Byte) (s : State) : (finish code data s).olen = s.olen := rfl
@[simp] theorem finish_ibuf (code : ResultCode) (data : List Byte) (s : State) : (finish code data s).ibuf = s.ibuf := rfl
@[simp] theorem finish_ilen (code : ResultCode) (data : List Byte) (s : State) : (finish code data s).ilen = s.ilen := rfl
@[simp] theorem finish_crc (code : ResultCode) (data : List Byte) (s : State) : (finish code data s).crc = s.crc := rfl
@[simp] theorem finish_blk (code : ResultCode) (data : List Byte) (s : State) : (finish code data s).blk = s.blk := rfl
@[simp] theorem finish_lineValid (code : ResultCode) (data : List Byte) (s : State) : (finish code data s).lineValid = s.lineValid := rfl
@[simp] theorem finish_st (code : ResultCode) (data : List Byte) (s : State) : (finish code data s).st = s.st := rfl
@[simp] theorem finish_seq (code : ResultCode) (data : List Byte) (s : State) : (finish code data s).seq = s.seq := rfl
@[simp] theorem finish_res (code : ResultCode) (data : List Byte) (s : State) : (finish code data s).res = ⟨code, FaultRecord.zero, data⟩ := rfl
@[simp] theorem finish_history (code : ResultCode) (data : List Byte) (s : State) : (finish code data s).history = s.history := rfl
@[simp] theorem finish_par (code : ResultCode) (data : List Byte) (s : State) : (finish code data s).par = s.par := rfl
@[simp] theorem finish_writeScript (code : ResultCode) (data : List Byte) (s : State) : (finish code data s).writeScript = s.writeScript := rfl
@[simp] theorem finish_readScript (code : ResultCode) (data : List Byte) (s : State) : (finish code data s).readScript = s.readScript := rfl
@[simp] theorem finish_free (code : ResultCode) (data : List Byte) (s : State) : (finish code data s).free = s.free := rfl
@[simp] theorem finish_prog (code : ResultCode) (data : List Byte) (s : State) : (finish code data s).prog = s.prog := rfl
@[simp] theorem finish_pos (code : ResultCode) (data : List Byte) (s : State) : (finish code data s).pos = s.pos := rfl

/-! ## afterWrite -/

@[simp] theorem afterWrite_ses (s : State) : (afterWrite s).ses = s.ses := rfl
@[simp] theorem afterWrite_obuf (s : State) : (afterWrite s).obuf = s.obuf := rfl
@[simp] theorem afterWrite_olen (s : State) : (afterWrite s).olen = s.olen := rfl
@[simp] theorem afterWrite_ibuf (s : State) : (afterWrite s).ibuf = s.ibuf := rfl
@[simp] theorem afterWrite_ilen (s : State) : (afterWrite s).ilen = s.ilen := rfl
@[simp] theorem afterWrite_crc (s : State) : (afterWrite s).crc = s.crc := rfl
@[simp] theorem afterWrite_blk (s : State) : (afterWrite s).blk = s.blk := rfl
@[simp] theorem afterWrite_lineValid (s : State) : (afterWrite s).lineValid = s.lineValid := rfl
@[simp] theorem afterWrite_st (s : State) : (afterWrite s).st = s.st := rfl
@[simp] theorem afterWrite_seq (s : State) : (afterWrite s).seq = s.seq := rfl
@[simp] theorem afterWrite_res (s : State) : (afterWrite s).res = s.res := rfl
@[simp] theorem afterWrite_history (s : State) : (afterWrite s).history = s.history ++ [.out (controlWrite s)] := rfl
@[simp] theorem afterWrite_par (s : State) : (afterWrite s).par = s.par := rfl
@[simp] theorem afterWrite_writeScript (s : State) : (afterWrite s).writeScript = s.writeScript.tail := rfl
@[simp] theorem afterWrite_readScript (s : State) : (afterWrite s).readScript = s.readScript := rfl
@[simp] theorem afterWrite_free (s : State) : (afterWrite s).free = s.free := rfl
@[simp] theorem afterWrite_prog (s : State) : (afterWrite s).prog = s.prog := rfl
@[simp] theorem afterWrite_pos (s : State) : (afterWrite s).pos = s.pos := rfl

/-! ## afterRead -/

@[simp] theorem afterRead_ses (timeout : Nat) (s : State) : (afterRead timeout s).ses = s.ses := rfl
@[simp] theorem afterRead_obuf (timeout : Nat) (s : State) : (afterRead timeout s).obuf = s.obuf := rfl
@[simp] theorem afterRead_olen (timeout : Nat) (s : State) : (afterRead timeout s).olen = s.olen := rfl
@[simp] theorem afterRead_ibuf (timeout : Nat) (s : State) : (afterRead timeout s).ibuf = s.ibuf := rfl
@[simp] theorem afterRead_ilen (timeout : Nat) (s : State) : (afterRead timeout s).ilen = s.ilen := rfl
@[simp] theorem afterRead_crc (timeout : Nat) (s : State) : (afterRead timeout s).crc = s.crc := rfl
@[simp] theorem afterRead_blk (timeout : Nat) (s : State) : (afterRead timeout s).blk = s.blk := rfl
@[simp] theorem afterRead_lineValid (timeout : Nat) (s : State) : (afterRead timeout s).lineValid = s.lineValid := rfl
@[simp] theorem afterRead_st (timeout : Nat) (s : State) : (afterRead timeout s).st = s.st := rfl
@[simp] theorem afterRead_seq (timeout : Nat) (s : State) : (afterRead timeout s).seq = s.seq := rfl
@[simp] theorem afterRead_res (timeout : Nat) (s : State) : (afterRead timeout s).res = s.res := rfl
@[simp] theorem afterRead_history (timeout : Nat) (s : State) : (afterRead timeout s).history = s.history ++ [.inp (interruptRead timeout s) (nextReadAnswer timeout s)] := rfl
@[simp] theorem afterRead_par (timeout : Nat) (s : State) : (afterRead timeout s).par = s.par := rfl
@[simp] theorem afterRead_writeScript (timeout : Nat) (s : State) : (afterRead timeout s).writeScript = s.writeScript := rfl
@[simp] theorem afterRead_readScript (timeout : Nat) (s : State) : (afterRead timeout s).readScript = s.readScript.tail := rfl
@[simp] theorem afterRead_free (timeout : Nat) (s : State) : (afterRead timeout s).free = s.free := rfl
@[simp] theorem afterRead_prog (timeout : Nat) (s : State) : (afterRead timeout s).prog = s.prog := rfl
@[simp] theorem afterRead_pos (timeout : Nat) (s : State) : (afterRead timeout s).pos = s.pos := rfl

/-! ## toPhase -/

@[simp] theorem toPhase_ses (phase : SeqPhase) (s : State) : (toPhase phase s).ses = s.ses := rfl
@[simp] theorem toPhase_obuf (phase : SeqPhase) (s : State) : (toPhase phase s).obuf = s.obuf := rfl
@[simp] theorem toPhase_olen (phase : SeqPhase) (s : State) : (toPhase phase s).olen = s.olen := rfl
@[simp] theorem toPhase_ibuf (phase : SeqPhase) (s : State) : (toPhase phase s).ibuf = s.ibuf := rfl
@[simp] theorem toPhase_ilen (phase : SeqPhase) (s : State) : (toPhase phase s).ilen = s.ilen := rfl
@[simp] theorem toPhase_crc (phase : SeqPhase) (s : State) : (toPhase phase s).crc = s.crc := rfl
@[simp] theorem toPhase_blk (phase : SeqPhase) (s : State) : (toPhase phase s).blk = s.blk := rfl
@[simp] theorem toPhase_lineValid (phase : SeqPhase) (s : State) : (toPhase phase s).lineValid = s.lineValid := rfl
@[simp] theorem toPhase_st (phase : SeqPhase) (s : State) : (toPhase phase s).st = s.st := rfl
@[simp] theorem toPhase_seq (phase : SeqPhase) (s : State) : (toPhase phase s).seq = { s.seq with phase := phase } := rfl
@[simp] theorem toPhase_res (phase : SeqPhase) (s : State) : (toPhase phase s).res = s.res := rfl
@[simp] theorem toPhase_history (phase : SeqPhase) (s : State) : (toPhase phase s).history = s.history := rfl
@[simp] theorem toPhase_par (phase : SeqPhase) (s : State) : (toPhase phase s).par = s.par := rfl
@[simp] theorem toPhase_writeScript (phase : SeqPhase) (s : State) : (toPhase phase s).writeScript = s.writeScript := rfl
@[simp] theorem toPhase_readScript (phase : SeqPhase) (s : State) : (toPhase phase s).readScript = s.readScript := rfl
@[simp] theorem toPhase_free (phase : SeqPhase) (s : State) : (toPhase phase s).free = s.free := rfl
@[simp] theorem toPhase_prog (phase : SeqPhase) (s : State) : (toPhase phase s).prog = s.prog := rfl
@[simp] theorem toPhase_pos (phase : SeqPhase) (s : State) : (toPhase phase s).pos = s.pos := rfl

/-! ## retire -/

@[simp] theorem retire_ses (s : State) : (retire s).ses = s.ses := rfl
@[simp] theorem retire_obuf (s : State) : (retire s).obuf = s.obuf := rfl
@[simp] theorem retire_olen (s : State) : (retire s).olen = s.olen := rfl
@[simp] theorem retire_ibuf (s : State) : (retire s).ibuf = s.ibuf := rfl
@[simp] theorem retire_ilen (s : State) : (retire s).ilen = s.ilen := rfl
@[simp] theorem retire_crc (s : State) : (retire s).crc = s.crc := rfl
@[simp] theorem retire_blk (s : State) : (retire s).blk = s.blk := rfl
@[simp] theorem retire_lineValid (s : State) : (retire s).lineValid = s.lineValid := rfl
@[simp] theorem retire_st (s : State) : (retire s).st = s.st := rfl
@[simp] theorem retire_seq (s : State) : (retire s).seq = { s.seq with op := .none, phase := .idle, pass := 0 } := rfl
@[simp] theorem retire_res (s : State) : (retire s).res = s.res := rfl
@[simp] theorem retire_history (s : State) : (retire s).history = s.history := rfl
@[simp] theorem retire_par (s : State) : (retire s).par = s.par := rfl
@[simp] theorem retire_writeScript (s : State) : (retire s).writeScript = s.writeScript := rfl
@[simp] theorem retire_readScript (s : State) : (retire s).readScript = s.readScript := rfl
@[simp] theorem retire_free (s : State) : (retire s).free = s.free := rfl
@[simp] theorem retire_prog (s : State) : (retire s).prog = s.prog := rfl
@[simp] theorem retire_pos (s : State) : (retire s).pos = s.pos := rfl

/-! ## sealBlock -/

@[simp] theorem writeSeal_ses (c : Half) (s : State) : (writeSeal c s).ses = s.ses := rfl
@[simp] theorem sealBlock_ses (s : State) : (sealBlock s).ses = s.ses := writeSeal_ses _ s
@[simp] theorem writeSeal_obuf (c : Half) (s : State) : (writeSeal c s).obuf = s.obuf := rfl
@[simp] theorem sealBlock_obuf (s : State) : (sealBlock s).obuf = s.obuf := writeSeal_obuf _ s
@[simp] theorem writeSeal_olen (c : Half) (s : State) : (writeSeal c s).olen = s.olen := rfl
@[simp] theorem sealBlock_olen (s : State) : (sealBlock s).olen = s.olen := writeSeal_olen _ s
@[simp] theorem writeSeal_ibuf (c : Half) (s : State) : (writeSeal c s).ibuf = s.ibuf := rfl
@[simp] theorem sealBlock_ibuf (s : State) : (sealBlock s).ibuf = s.ibuf := writeSeal_ibuf _ s
@[simp] theorem writeSeal_ilen (c : Half) (s : State) : (writeSeal c s).ilen = s.ilen := rfl
@[simp] theorem sealBlock_ilen (s : State) : (sealBlock s).ilen = s.ilen := writeSeal_ilen _ s
@[simp] theorem writeSeal_crc (c : Half) (s : State) : (writeSeal c s).crc = c := rfl
@[simp] theorem sealBlock_crc (s : State) : (sealBlock s).crc = blockChecksum s.blk := writeSeal_crc _ s
@[simp] theorem writeSeal_blk (c : Half) (s : State) : (writeSeal c s).blk = writeTrailer s.blk c := rfl
@[simp] theorem sealBlock_blk (s : State) : (sealBlock s).blk = writeTrailer s.blk (blockChecksum s.blk) := writeSeal_blk _ s
@[simp] theorem writeSeal_lineValid (c : Half) (s : State) : (writeSeal c s).lineValid = s.lineValid := rfl
@[simp] theorem sealBlock_lineValid (s : State) : (sealBlock s).lineValid = s.lineValid := writeSeal_lineValid _ s
@[simp] theorem writeSeal_st (c : Half) (s : State) : (writeSeal c s).st = s.st := rfl
@[simp] theorem sealBlock_st (s : State) : (sealBlock s).st = s.st := writeSeal_st _ s
@[simp] theorem writeSeal_seq (c : Half) (s : State) : (writeSeal c s).seq = s.seq := rfl
@[simp] theorem sealBlock_seq (s : State) : (sealBlock s).seq = s.seq := writeSeal_seq _ s
@[simp] theorem writeSeal_res (c : Half) (s : State) : (writeSeal c s).res = s.res := rfl
@[simp] theorem sealBlock_res (s : State) : (sealBlock s).res = s.res := writeSeal_res _ s
@[simp] theorem writeSeal_history (c : Half) (s : State) : (writeSeal c s).history = s.history := rfl
@[simp] theorem sealBlock_history (s : State) : (sealBlock s).history = s.history := writeSeal_history _ s
@[simp] theorem writeSeal_par (c : Half) (s : State) : (writeSeal c s).par = s.par := rfl
@[simp] theorem sealBlock_par (s : State) : (sealBlock s).par = s.par := writeSeal_par _ s
@[simp] theorem writeSeal_writeScript (c : Half) (s : State) : (writeSeal c s).writeScript = s.writeScript := rfl
@[simp] theorem sealBlock_writeScript (s : State) : (sealBlock s).writeScript = s.writeScript := writeSeal_writeScript _ s
@[simp] theorem writeSeal_readScript (c : Half) (s : State) : (writeSeal c s).readScript = s.readScript := rfl
@[simp] theorem sealBlock_readScript (s : State) : (sealBlock s).readScript = s.readScript := writeSeal_readScript _ s
@[simp] theorem writeSeal_free (c : Half) (s : State) : (writeSeal c s).free = s.free := rfl
@[simp] theorem sealBlock_free (s : State) : (sealBlock s).free = s.free := writeSeal_free _ s
@[simp] theorem writeSeal_prog (c : Half) (s : State) : (writeSeal c s).prog = s.prog := rfl
@[simp] theorem sealBlock_prog (s : State) : (sealBlock s).prog = s.prog := writeSeal_prog _ s
@[simp] theorem writeSeal_pos (c : Half) (s : State) : (writeSeal c s).pos = s.pos := rfl
@[simp] theorem sealBlock_pos (s : State) : (sealBlock s).pos = s.pos := writeSeal_pos _ s

/-! ## startQuery -/

@[simp] theorem startQuery_ses (s : State) : (startQuery s).ses = s.ses := rfl
@[simp] theorem startQuery_obuf (s : State) : (startQuery s).obuf = s.obuf := rfl
@[simp] theorem startQuery_olen (s : State) : (startQuery s).olen = s.olen := rfl
@[simp] theorem startQuery_ibuf (s : State) : (startQuery s).ibuf = s.ibuf := rfl
@[simp] theorem startQuery_ilen (s : State) : (startQuery s).ilen = s.ilen := rfl
@[simp] theorem startQuery_crc (s : State) : (startQuery s).crc = s.crc := rfl
@[simp] theorem startQuery_blk (s : State) : (startQuery s).blk = s.blk := rfl
@[simp] theorem startQuery_lineValid (s : State) : (startQuery s).lineValid = s.lineValid := rfl
@[simp] theorem startQuery_st (s : State) : (startQuery s).st = s.st := rfl
@[simp] theorem startQuery_seq (s : State) : (startQuery s).seq = { s.seq with op := .query, pass := 0, phase := .qTx } := rfl
@[simp] theorem startQuery_res (s : State) : (startQuery s).res = s.res := rfl
@[simp] theorem startQuery_history (s : State) : (startQuery s).history = s.history := rfl
@[simp] theorem startQuery_par (s : State) : (startQuery s).par = s.par := rfl
@[simp] theorem startQuery_writeScript (s : State) : (startQuery s).writeScript = s.writeScript := rfl
@[simp] theorem startQuery_readScript (s : State) : (startQuery s).readScript = s.readScript := rfl
@[simp] theorem startQuery_free (s : State) : (startQuery s).free = s.free := rfl
@[simp] theorem startQuery_prog (s : State) : (startQuery s).prog = s.prog := rfl
@[simp] theorem startQuery_pos (s : State) : (startQuery s).pos = s.pos := rfl

/-! ## startPass -/

@[simp] theorem startPass_ses (profile widmode wid : Byte) (s : State) : (startPass profile widmode wid s).ses = s.ses := rfl
@[simp] theorem startPass_obuf (profile widmode wid : Byte) (s : State) : (startPass profile widmode wid s).obuf = s.obuf := rfl
@[simp] theorem startPass_olen (profile widmode wid : Byte) (s : State) : (startPass profile widmode wid s).olen = s.olen := rfl
@[simp] theorem startPass_ibuf (profile widmode wid : Byte) (s : State) : (startPass profile widmode wid s).ibuf = s.ibuf := rfl
@[simp] theorem startPass_ilen (profile widmode wid : Byte) (s : State) : (startPass profile widmode wid s).ilen = s.ilen := rfl
@[simp] theorem startPass_crc (profile widmode wid : Byte) (s : State) : (startPass profile widmode wid s).crc = s.crc := rfl
@[simp] theorem startPass_blk (profile widmode wid : Byte) (s : State) : (startPass profile widmode wid s).blk = s.blk := rfl
@[simp] theorem startPass_lineValid (profile widmode wid : Byte) (s : State) : (startPass profile widmode wid s).lineValid = s.lineValid := rfl
@[simp] theorem startPass_st (profile widmode wid : Byte) (s : State) : (startPass profile widmode wid s).st = s.st := rfl
@[simp] theorem startPass_res (profile widmode wid : Byte) (s : State) : (startPass profile widmode wid s).res = s.res := rfl
@[simp] theorem startPass_history (profile widmode wid : Byte) (s : State) : (startPass profile widmode wid s).history = s.history := rfl
@[simp] theorem startPass_par (profile widmode wid : Byte) (s : State) : (startPass profile widmode wid s).par = s.par := rfl
@[simp] theorem startPass_writeScript (profile widmode wid : Byte) (s : State) : (startPass profile widmode wid s).writeScript = s.writeScript := rfl
@[simp] theorem startPass_readScript (profile widmode wid : Byte) (s : State) : (startPass profile widmode wid s).readScript = s.readScript := rfl
@[simp] theorem startPass_free (profile widmode wid : Byte) (s : State) : (startPass profile widmode wid s).free = s.free := rfl
@[simp] theorem startPass_prog (profile widmode wid : Byte) (s : State) : (startPass profile widmode wid s).prog = s.prog := rfl
@[simp] theorem startPass_pos (profile widmode wid : Byte) (s : State) : (startPass profile widmode wid s).pos = s.pos := rfl

/-! ## startWrite -/

@[simp] theorem startWrite_ses (profile : Byte) (s : State) : (startWrite profile s).ses = s.ses := rfl
@[simp] theorem startWrite_obuf (profile : Byte) (s : State) : (startWrite profile s).obuf = s.obuf := rfl
@[simp] theorem startWrite_olen (profile : Byte) (s : State) : (startWrite profile s).olen = s.olen := rfl
@[simp] theorem startWrite_ibuf (profile : Byte) (s : State) : (startWrite profile s).ibuf = s.ibuf := rfl
@[simp] theorem startWrite_ilen (profile : Byte) (s : State) : (startWrite profile s).ilen = s.ilen := rfl
@[simp] theorem startWrite_crc (profile : Byte) (s : State) : (startWrite profile s).crc = s.crc := rfl
@[simp] theorem startWrite_blk (profile : Byte) (s : State) : (startWrite profile s).blk = s.blk := rfl
@[simp] theorem startWrite_lineValid (profile : Byte) (s : State) : (startWrite profile s).lineValid = s.lineValid := rfl
@[simp] theorem startWrite_st (profile : Byte) (s : State) : (startWrite profile s).st = s.st := rfl
@[simp] theorem startWrite_res (profile : Byte) (s : State) : (startWrite profile s).res = s.res := rfl
@[simp] theorem startWrite_history (profile : Byte) (s : State) : (startWrite profile s).history = s.history := rfl
@[simp] theorem startWrite_par (profile : Byte) (s : State) : (startWrite profile s).par = s.par := rfl
@[simp] theorem startWrite_writeScript (profile : Byte) (s : State) : (startWrite profile s).writeScript = s.writeScript := rfl
@[simp] theorem startWrite_readScript (profile : Byte) (s : State) : (startWrite profile s).readScript = s.readScript := rfl
@[simp] theorem startWrite_free (profile : Byte) (s : State) : (startWrite profile s).free = s.free := rfl
@[simp] theorem startWrite_prog (profile : Byte) (s : State) : (startWrite profile s).prog = s.prog := rfl
@[simp] theorem startWrite_pos (profile : Byte) (s : State) : (startWrite profile s).pos = s.pos := rfl

/-! ## jumpTo -/

@[simp] theorem jumpTo_ses (target : Nat) (s : State) : (jumpTo target s).ses = s.ses := rfl
@[simp] theorem jumpTo_obuf (target : Nat) (s : State) : (jumpTo target s).obuf = s.obuf := rfl
@[simp] theorem jumpTo_olen (target : Nat) (s : State) : (jumpTo target s).olen = s.olen := rfl
@[simp] theorem jumpTo_ibuf (target : Nat) (s : State) : (jumpTo target s).ibuf = s.ibuf := rfl
@[simp] theorem jumpTo_ilen (target : Nat) (s : State) : (jumpTo target s).ilen = s.ilen := rfl
@[simp] theorem jumpTo_crc (target : Nat) (s : State) : (jumpTo target s).crc = s.crc := rfl
@[simp] theorem jumpTo_blk (target : Nat) (s : State) : (jumpTo target s).blk = s.blk := rfl
@[simp] theorem jumpTo_lineValid (target : Nat) (s : State) : (jumpTo target s).lineValid = s.lineValid := rfl
@[simp] theorem jumpTo_st (target : Nat) (s : State) : (jumpTo target s).st = s.st := rfl
@[simp] theorem jumpTo_seq (target : Nat) (s : State) : (jumpTo target s).seq = s.seq := rfl
@[simp] theorem jumpTo_res (target : Nat) (s : State) : (jumpTo target s).res = s.res := rfl
@[simp] theorem jumpTo_history (target : Nat) (s : State) : (jumpTo target s).history = s.history := rfl
@[simp] theorem jumpTo_par (target : Nat) (s : State) : (jumpTo target s).par = s.par := rfl
@[simp] theorem jumpTo_writeScript (target : Nat) (s : State) : (jumpTo target s).writeScript = s.writeScript := rfl
@[simp] theorem jumpTo_readScript (target : Nat) (s : State) : (jumpTo target s).readScript = s.readScript := rfl
@[simp] theorem jumpTo_free (target : Nat) (s : State) : (jumpTo target s).free = s.free := rfl
@[simp] theorem jumpTo_prog (target : Nat) (s : State) : (jumpTo target s).prog = s.prog := rfl
@[simp] theorem jumpTo_pos (target : Nat) (s : State) : (jumpTo target s).pos = target := rfl

/-! ## branchTo -/

@[simp] theorem branchTo_ses (cond : HostCond) (target : Nat) (s : State) : (branchTo cond target s).ses = s.ses := rfl
@[simp] theorem branchTo_obuf (cond : HostCond) (target : Nat) (s : State) : (branchTo cond target s).obuf = s.obuf := rfl
@[simp] theorem branchTo_olen (cond : HostCond) (target : Nat) (s : State) : (branchTo cond target s).olen = s.olen := rfl
@[simp] theorem branchTo_ibuf (cond : HostCond) (target : Nat) (s : State) : (branchTo cond target s).ibuf = s.ibuf := rfl
@[simp] theorem branchTo_ilen (cond : HostCond) (target : Nat) (s : State) : (branchTo cond target s).ilen = s.ilen := rfl
@[simp] theorem branchTo_crc (cond : HostCond) (target : Nat) (s : State) : (branchTo cond target s).crc = s.crc := rfl
@[simp] theorem branchTo_blk (cond : HostCond) (target : Nat) (s : State) : (branchTo cond target s).blk = s.blk := rfl
@[simp] theorem branchTo_lineValid (cond : HostCond) (target : Nat) (s : State) : (branchTo cond target s).lineValid = s.lineValid := rfl
@[simp] theorem branchTo_st (cond : HostCond) (target : Nat) (s : State) : (branchTo cond target s).st = s.st := rfl
@[simp] theorem branchTo_seq (cond : HostCond) (target : Nat) (s : State) : (branchTo cond target s).seq = s.seq := rfl
@[simp] theorem branchTo_res (cond : HostCond) (target : Nat) (s : State) : (branchTo cond target s).res = s.res := rfl
@[simp] theorem branchTo_history (cond : HostCond) (target : Nat) (s : State) : (branchTo cond target s).history = s.history := rfl
@[simp] theorem branchTo_par (cond : HostCond) (target : Nat) (s : State) : (branchTo cond target s).par = s.par := rfl
@[simp] theorem branchTo_writeScript (cond : HostCond) (target : Nat) (s : State) : (branchTo cond target s).writeScript = s.writeScript := rfl
@[simp] theorem branchTo_readScript (cond : HostCond) (target : Nat) (s : State) : (branchTo cond target s).readScript = s.readScript := rfl
@[simp] theorem branchTo_free (cond : HostCond) (target : Nat) (s : State) : (branchTo cond target s).free = s.free := rfl
@[simp] theorem branchTo_prog (cond : HostCond) (target : Nat) (s : State) : (branchTo cond target s).prog = s.prog := rfl
@[simp] theorem branchTo_pos (cond : HostCond) (target : Nat) (s : State) : (branchTo cond target s).pos = if condHolds s cond then target else s.pos + 1 := rfl

/-! ## Updates that depend on the state -/

@[simp] theorem insertWriteId_ses (s : State) : (insertWriteId s).ses = s.ses := by
  unfold insertWriteId; split <;> rfl

@[simp] theorem insertWriteId_obuf (s : State) : (insertWriteId s).obuf = s.obuf := by
  unfold insertWriteId; split <;> rfl

@[simp] theorem insertWriteId_olen (s : State) : (insertWriteId s).olen = s.olen := by
  unfold insertWriteId; split <;> rfl

@[simp] theorem insertWriteId_ibuf (s : State) : (insertWriteId s).ibuf = s.ibuf := by
  unfold insertWriteId; split <;> rfl

@[simp] theorem insertWriteId_ilen (s : State) : (insertWriteId s).ilen = s.ilen := by
  unfold insertWriteId; split <;> rfl

@[simp] theorem insertWriteId_crc (s : State) : (insertWriteId s).crc = s.crc := by
  unfold insertWriteId; split <;> rfl

@[simp] theorem insertWriteId_lineValid (s : State) : (insertWriteId s).lineValid = s.lineValid := by
  unfold insertWriteId; split <;> rfl

@[simp] theorem insertWriteId_st (s : State) : (insertWriteId s).st = s.st := by
  unfold insertWriteId; split <;> rfl

@[simp] theorem insertWriteId_res (s : State) : (insertWriteId s).res = s.res := by
  unfold insertWriteId; split <;> rfl

@[simp] theorem insertWriteId_history (s : State) : (insertWriteId s).history = s.history := by
  unfold insertWriteId; split <;> rfl

@[simp] theorem insertWriteId_par (s : State) : (insertWriteId s).par = s.par := by
  unfold insertWriteId; split <;> rfl

@[simp] theorem insertWriteId_writeScript (s : State) : (insertWriteId s).writeScript = s.writeScript := by
  unfold insertWriteId; split <;> rfl

@[simp] theorem insertWriteId_readScript (s : State) : (insertWriteId s).readScript = s.readScript := by
  unfold insertWriteId; split <;> rfl

@[simp] theorem insertWriteId_free (s : State) : (insertWriteId s).free = s.free := by
  unfold insertWriteId; split <;> rfl

@[simp] theorem insertWriteId_prog (s : State) : (insertWriteId s).prog = s.prog := by
  unfold insertWriteId; split <;> rfl

@[simp] theorem insertWriteId_pos (s : State) : (insertWriteId s).pos = s.pos := by
  unfold insertWriteId; split <;> rfl

@[simp] theorem recordEndStatus_ses (st : Status) (s : State) : (recordEndStatus st s).ses = s.ses := by
  unfold recordEndStatus; split <;> rfl

@[simp] theorem recordEndStatus_obuf (st : Status) (s : State) : (recordEndStatus st s).obuf = s.obuf := by
  unfold recordEndStatus; split <;> rfl

@[simp] theorem recordEndStatus_olen (st : Status) (s : State) : (recordEndStatus st s).olen = s.olen := by
  unfold recordEndStatus; split <;> rfl

@[simp] theorem recordEndStatus_ibuf (st : Status) (s : State) : (recordEndStatus st s).ibuf = s.ibuf := by
  unfold recordEndStatus; split <;> rfl

@[simp] theorem recordEndStatus_ilen (st : Status) (s : State) : (recordEndStatus st s).ilen = s.ilen := by
  unfold recordEndStatus; split <;> rfl

@[simp] theorem recordEndStatus_crc (st : Status) (s : State) : (recordEndStatus st s).crc = s.crc := by
  unfold recordEndStatus; split <;> rfl

@[simp] theorem recordEndStatus_blk (st : Status) (s : State) : (recordEndStatus st s).blk = s.blk := by
  unfold recordEndStatus; split <;> rfl

@[simp] theorem recordEndStatus_lineValid (st : Status) (s : State) : (recordEndStatus st s).lineValid = s.lineValid := by
  unfold recordEndStatus; split <;> rfl

@[simp] theorem recordEndStatus_st (st : Status) (s : State) : (recordEndStatus st s).st = s.st := by
  unfold recordEndStatus; split <;> rfl

@[simp] theorem recordEndStatus_res (st : Status) (s : State) : (recordEndStatus st s).res = s.res := by
  unfold recordEndStatus; split <;> rfl

@[simp] theorem recordEndStatus_history (st : Status) (s : State) : (recordEndStatus st s).history = s.history := by
  unfold recordEndStatus; split <;> rfl

@[simp] theorem recordEndStatus_par (st : Status) (s : State) : (recordEndStatus st s).par = s.par := by
  unfold recordEndStatus; split <;> rfl

@[simp] theorem recordEndStatus_writeScript (st : Status) (s : State) : (recordEndStatus st s).writeScript = s.writeScript := by
  unfold recordEndStatus; split <;> rfl

@[simp] theorem recordEndStatus_readScript (st : Status) (s : State) : (recordEndStatus st s).readScript = s.readScript := by
  unfold recordEndStatus; split <;> rfl

@[simp] theorem recordEndStatus_free (st : Status) (s : State) : (recordEndStatus st s).free = s.free := by
  unfold recordEndStatus; split <;> rfl

@[simp] theorem recordEndStatus_prog (st : Status) (s : State) : (recordEndStatus st s).prog = s.prog := by
  unfold recordEndStatus; split <;> rfl

@[simp] theorem recordEndStatus_pos (st : Status) (s : State) : (recordEndStatus st s).pos = s.pos := by
  unfold recordEndStatus; split <;> rfl

/-! ## Reset -/

@[simp] theorem reset_history : State.reset.history = [] := rfl
@[simp] theorem reset_blk : State.reset.blk = [] := rfl
@[simp] theorem reset_seq : State.reset.seq = Sequencer.reset := rfl
@[simp] theorem reset_lineValid : State.reset.lineValid = 0 := rfl

end Sys2Proof.Machine
end

