-- ==== Sys2Proof/Laws/Buffers.lean ====
section
/-! SUPPORT. The laws of the frame buffers: what a frame put into OBUF leaves there, what a read leaves in
IBUF, and the bytes of frames. -/

namespace Sys2Proof.Machine

/-! ## Frames -/

@[simp] theorem length_shortFrame (dev feat : Byte) (fn sw : Nibble) (a b c : Byte) :
    (shortFrame dev feat fn sw a b c).length = 7 := rfl

@[simp] theorem length_longFrame (dev feat : Byte) (fn sw : Nibble) (payload : Payload) :
    (longFrame dev feat fn sw payload).length = 20 := by
  simp [longFrame]

/-- `function_id = op_byte[7:4]` gives back the function id (R123). -/
@[simp] theorem opFunction_opByte (fn sw : Nibble) : opFunction (opByte fn sw) = fn := by
  unfold opFunction opByte
  ext i hi
  simp only [BitVec.getElem_extractLsb', BitVec.getLsbD_append]
  simp [show ¬ 4 + i < 4 by omega, ← BitVec.getLsbD_eq_getElem]

/-- `software_id = op_byte[3:0]` gives back the software id (R123). -/
@[simp] theorem opSwid_opByte (fn sw : Nibble) : opSwid (opByte fn sw) = sw := by
  unfold opSwid opByte
  ext i hi
  simp only [BitVec.getElem_extractLsb', BitVec.getLsbD_append]
  simp [hi, ← BitVec.getLsbD_eq_getElem]

/-! ## OBUF -/

/-- A buffer overwritten from its start: the new bytes first, the old ones after them. -/
theorem getElem_overlay (buf : FrameBuf) (bytes : List Byte) (i : Nat) (h : i < 20) :
    (overlay buf bytes)[i] = if h' : i < bytes.length then bytes[i] else buf[i] := by
  unfold overlay
  simp only [Vector.getElem_mk, List.getElem_toArray, List.getElem_take, List.getElem_append, List.getElem_drop]
  split
  · rfl
  · next h' => simp [show bytes.length + (i - bytes.length) = i by omega]

theorem toList_overlay (buf : FrameBuf) (bytes : List Byte) :
    (overlay buf bytes).toList = (bytes ++ buf.toList.drop bytes.length).take 20 := rfl

/-- The frame a send transmits is the frame that was put into OBUF (R38). -/
theorem frameOut_loadFrame (len : OutLen) (frame : List Byte) (s : State) (h : frame.length = len.bytes) :
    frameOut (loadFrame len frame s) = frame := by
  unfold frameOut
  rw [loadFrame_obuf, loadFrame_olen, toList_overlay, List.take_take, ← h,
    Nat.min_eq_left (by rw [h]; cases len <;> decide)]
  simp

/-! ## IBUF -/

@[simp] theorem length_freeBytes (free n : Nat) : (freeBytes free n).length = n := by
  simp [freeBytes]

/-- The bytes a read returned lie first in IBUF (R39). -/
theorem getElem_inbound (free : Nat) (bytes : List Byte) (i : Nat) (h : i < 20) (h' : i < bytes.length) :
    (inbound free bytes)[i] = bytes[i] := by
  unfold inbound
  simp only [Vector.getElem_mk, List.getElem_toArray, List.getElem_take, List.getElem_append, h', dite_true]

@[simp] theorem storeInbound_ibuf (bytes : List Byte) (s : State) :
    (storeInbound bytes s).ibuf = inbound s.free bytes := rfl

@[simp] theorem storeInbound_ilen (bytes : List Byte) (s : State) :
    (storeInbound bytes s).ilen.val = min bytes.length 20 := rfl

/-- The port never delivers more than 20 bytes (R95). -/
theorem clip_length {answer : ReadAnswer} {bytes : List Byte} (h : clip answer = .ok bytes) : bytes.length ≤ 20 := by
  cases answer with
  | ok l =>
    simp only [clip, ReadAnswer.ok.injEq] at h
    subst h
    simp
  | fail => simp [clip] at h

theorem nextReadAnswer_length {timeout : Nat} {s : State} {bytes : List Byte}
    (h : nextReadAnswer timeout s = .ok bytes) : bytes.length ≤ 20 := by
  unfold nextReadAnswer at h
  split at h <;> exact clip_length h

end Sys2Proof.Machine
end

