-- ==== Sys2Proof/Laws/Memory.lean ====
section
/-! SUPPORT. The laws of BLK: a read after a write, bytes written and read in order, and the canonical form,
which every memory operation keeps. -/

namespace Sys2Proof.Machine

/-! ## Read after write -/

theorem Memory.read_insert (m : Memory) (a : Nat) (b : Byte) (h : ∀ cell ∈ m, cell.1 ≠ a) (a' : Nat) :
    (Memory.insert a b m).read a' = if a' = a then b else m.read a' := by
  induction m with
  | nil => simp only [Memory.insert, Memory.read, eq_comm]
  | cons cell rest ih =>
    obtain ⟨k, v⟩ := cell
    have hk : k ≠ a := h (k, v) (by simp)
    have hrest := ih fun c hc => h c (by simp [hc])
    unfold Memory.insert
    split
    · simp only [Memory.read, eq_comm]
    · simp only [Memory.read, hrest]
      by_cases e : a' = a
      · subst e; simp [hk]
      · simp [e]

theorem Memory.read_erase (m : Memory) (a a' : Nat) :
    (m.erase a).read a' = if a' = a then Memory.blank else m.read a' := by
  induction m with
  | nil => simp [Memory.erase, Memory.read]
  | cons cell rest ih =>
    obtain ⟨k, v⟩ := cell
    by_cases hk : k = a
    · subst hk
      rw [show Memory.erase ((k, v) :: rest) k = Memory.erase rest k by simp [Memory.erase], ih]
      by_cases e : a' = k
      · simp [e]
      · simp [e, Memory.read, Ne.symm e]
    · rw [show Memory.erase ((k, v) :: rest) a = (k, v) :: Memory.erase rest a by simp [Memory.erase, hk]]
      simp only [Memory.read, ih]
      by_cases e : k = a'
      · subst e; simp [hk]
      · simp [e]

theorem Memory.mem_erase {m : Memory} {a : Nat} {cell : Host.Cell} :
    cell ∈ m.erase a ↔ cell ∈ m ∧ cell.1 ≠ a := by
  simp [Memory.erase]

/-- A read after a write: the byte written at its offset, every other offset as before. -/
theorem Memory.read_write (m : Memory) (a : Nat) (b : Byte) (a' : Nat) :
    (m.write a b).read a' = if a' = a then b else m.read a' := by
  unfold Memory.write
  split
  · next h => rw [Memory.read_erase, h]
  · rw [Memory.read_insert _ _ _ fun cell hc => (Memory.mem_erase.mp hc).2, Memory.read_erase]
    split <;> rfl

@[simp] theorem Memory.read_write_same (m : Memory) (a : Nat) (b : Byte) : (m.write a b).read a = b := by
  simp [Memory.read_write]

theorem Memory.read_write_other (m : Memory) {a a' : Nat} (b : Byte) (h : a' ≠ a) :
    (m.write a b).read a' = m.read a' := by
  simp [Memory.read_write, h]

/-- Bytes written from an offset on: the i-th at the i-th offset, every other offset as before. -/
theorem Memory.read_writeBytes (m : Memory) (a : Nat) (bytes : List Byte) (a' : Nat) :
    (m.writeBytes a bytes).read a' =
      if a ≤ a' ∧ a' < a + bytes.length then bytes.getD (a' - a) 0 else m.read a' := by
  induction bytes generalizing m a with
  | nil => simp [Memory.writeBytes]
  | cons b rest ih =>
    rw [Memory.writeBytes, ih, Memory.read_write]
    by_cases e : a' = a
    · subst e; simp
    · by_cases h : a + 1 ≤ a' ∧ a' < a + 1 + rest.length
      · have h1 : a' - a = (a' - (a + 1)) + 1 := by omega
        have h2 : a ≤ a' ∧ a' < a + (b :: rest).length := by simp; omega
        rw [if_pos h, if_pos h2, h1, List.getD_cons_succ]
      · have h2 : ¬ (a ≤ a' ∧ a' < a + (b :: rest).length) := by simp; omega
        rw [if_neg h, if_neg h2, if_neg e]

theorem Memory.read_writeBytes_outside (m : Memory) {a a' : Nat} (bytes : List Byte)
    (h : a' < a ∨ a + bytes.length ≤ a') : (m.writeBytes a bytes).read a' = m.read a' := by
  rw [Memory.read_writeBytes, if_neg (by omega)]

@[simp] theorem Memory.length_readBytes (m : Memory) (a n : Nat) : (m.readBytes a n).length = n := by
  simp [Memory.readBytes]

@[simp] theorem Memory.length_line (m : Memory) (k : Nat) : (m.line k).length = 16 := by
  simp [Memory.line]

theorem Memory.getElem_readBytes (m : Memory) (a n i : Nat) (h : i < (m.readBytes a n).length) :
    (m.readBytes a n)[i] = m.read (a + i) := by
  simp [Memory.readBytes]

/-- The same bytes are read wherever every offset reads the same. -/
theorem Memory.readBytes_congr {m m' : Memory} {a n : Nat} (h : ∀ i, i < n → m.read (a + i) = m'.read (a + i)) :
    m.readBytes a n = m'.readBytes a n := by
  unfold Memory.readBytes
  exact List.map_congr_left fun i hi => h i (List.mem_range.mp hi)

@[simp] theorem Memory.toList_linePayload (m : Memory) (k : Nat) : (m.linePayload k).toList = m.line k := by
  simp [Memory.linePayload]

/-- A line written and then read whole. -/
theorem Memory.line_writeBytes (m : Memory) (k : Nat) (bytes : List Byte) (h : bytes.length = 16) :
    (m.writeBytes (16 * k) bytes).line k = bytes := by
  apply List.ext_getElem (by simp [h])
  intro i h1 h2
  have hl := Memory.getElem_readBytes (m.writeBytes (16 * k) bytes) (16 * k) 16 i (by simp; omega)
  refine Eq.trans hl ?_
  rw [Memory.read_writeBytes, if_pos (by omega)]
  simp [h2]

/-! ## The trailer -/

/-- The trailer holds the checksum big-endian and no other byte changes (R84, R302). -/
theorem read_writeTrailer (m : Memory) (c : Half) (a : Nat) :
    (writeTrailer m c).read a = if a = 255 then loByte c else if a = 254 then hiByte c else m.read a := by
  unfold writeTrailer
  rw [Memory.read_write, Memory.read_write]

/-- The trailer is no part of what the checksum is taken over (R302). -/
theorem blockChecksum_writeTrailer (m : Memory) (c : Half) : blockChecksum (writeTrailer m c) = blockChecksum m := by
  unfold blockChecksum
  congr 1
  apply Memory.readBytes_congr
  intro i hi
  rw [read_writeTrailer, if_neg (by omega), if_neg (by omega)]

/-! ## The canonical form -/

theorem Memory.mem_insert {m : Memory} {a : Nat} {b : Byte} {cell : Host.Cell}
    (h : cell ∈ Memory.insert a b m) : cell = (a, b) ∨ cell ∈ m := by
  induction m with
  | nil => simpa [Memory.insert] using h
  | cons head rest ih =>
    obtain ⟨k, v⟩ := head
    unfold Memory.insert at h
    split at h
    · simpa using h
    · simp only [List.mem_cons] at h ⊢
      rcases h with h | h
      · exact .inr (.inl h)
      · exact (ih h).imp id .inr

theorem Memory.insert_rising {m : Memory} {a : Nat} {b : Byte}
    (hm : m.Pairwise fun x y => x.1 < y.1) (ha : ∀ cell ∈ m, cell.1 ≠ a) :
    (Memory.insert a b m).Pairwise fun x y => x.1 < y.1 := by
  induction m with
  | nil => simp [Memory.insert]
  | cons head rest ih =>
    obtain ⟨k, v⟩ := head
    have hk : k ≠ a := ha (k, v) (by simp)
    rw [List.pairwise_cons] at hm
    unfold Memory.insert
    split
    · next h =>
      refine List.pairwise_cons.mpr ⟨fun cell hc => ?_, List.pairwise_cons.mpr hm⟩
      rcases List.mem_cons.mp hc with rfl | hc
      · exact h
      · exact Nat.lt_trans h (hm.1 cell hc)
    · next h =>
      refine List.pairwise_cons.mpr ⟨fun cell hc => ?_, ih hm.2 fun c hc => ha c (by simp [hc])⟩
      rcases Memory.mem_insert hc with rfl | hc
      · show k < a
        omega
      · exact hm.1 cell hc

theorem Memory.wf_erase {m : Memory} (hm : m.wf) (a : Nat) : (m.erase a).wf :=
  ⟨hm.1.filter _, fun cell hc => hm.2 cell (Memory.mem_erase.mp hc).1⟩

/-- A write within BLK keeps the canonical form. -/
theorem Memory.wf_write {m : Memory} (hm : m.wf) {a : Nat} (b : Byte) (ha : a < 256) : (m.write a b).wf := by
  have he := Memory.wf_erase hm a
  unfold Memory.write
  split
  · exact he
  · next hb =>
    refine ⟨Memory.insert_rising he.1 fun cell hc => (Memory.mem_erase.mp hc).2, fun cell hc => ?_⟩
    rcases Memory.mem_insert hc with rfl | hc
    · exact ⟨ha, hb⟩
    · exact he.2 cell hc

theorem Memory.wf_writeBytes {m : Memory} (hm : m.wf) (a : Nat) (bytes : List Byte) (h : a + bytes.length ≤ 256) :
    (m.writeBytes a bytes).wf := by
  induction bytes generalizing m a with
  | nil => exact hm
  | cons b rest ih =>
    simp only [List.length_cons] at h
    exact ih (Memory.wf_write hm b (by omega)) (a + 1) (by omega)

theorem wf_writeTrailer {m : Memory} (hm : m.wf) (c : Half) : (writeTrailer m c).wf :=
  Memory.wf_write (Memory.wf_write hm _ (by omega)) _ (by omega)

theorem length_lineZero (poll : Byte) (d0 d1 d2 d3 d4 : Half) : (lineZero poll [d0, d1, d2, d3, d4]).length = 16 := by
  simp [lineZero]

theorem length_profileUtf16 (profile : Byte) : (utf16 (profileName profile)).length = 16 := by
  simp [utf16, profileName]

/-- BLK_BUILD's block is canonical. -/
theorem wf_builtBlock {m : Memory} (hm : m.wf) (p : Params) (poll : Byte) (d0 d1 d2 d3 d4 : Half) (profile : Byte) :
    (builtBlock p m poll [d0, d1, d2, d3, d4] profile).wf := by
  unfold builtBlock
  refine Memory.wf_writeBytes (Memory.wf_writeBytes (Memory.wf_writeBytes (Memory.wf_writeBytes hm _ _ ?_) _ _ ?_) _ _ ?_) _ _ ?_
  · simp
  · simp [length_lineZero]
  · simp [length_profileUtf16]
  · simp

theorem widPos_lt (p : Params) : p.widPos < 32 := by
  have := p.widOffset.isLt
  unfold Params.widPos
  omega

/-- PREP's write of the write-id keeps the canonical form. -/
theorem wf_insertWriteId {s : State} (h : s.blk.wf) : (insertWriteId s).blk.wf := by
  unfold insertWriteId
  split
  · exact Memory.wf_write h _ (by have := widPos_lt s.par; omega)
  · exact h

/-- What is listed after a write is what was written or was listed before. -/
theorem Memory.mem_write {m : Memory} {a : Nat} {b : Byte} {cell : Host.Cell} (h : cell ∈ m.write a b) :
    cell.1 = a ∨ cell ∈ m := by
  unfold Memory.write at h
  split at h
  · exact .inr (Memory.mem_erase.mp h).1
  · rcases Memory.mem_insert h with rfl | h
    · exact .inl rfl
    · exact .inr (Memory.mem_erase.mp h).1

theorem Memory.mem_writeBytes {m : Memory} {a : Nat} {bytes : List Byte} {cell : Host.Cell}
    (h : cell ∈ m.writeBytes a bytes) : (a ≤ cell.1 ∧ cell.1 < a + bytes.length) ∨ cell ∈ m := by
  induction bytes generalizing m a with
  | nil => exact .inr h
  | cons b rest ih =>
    simp only [List.length_cons]
    rcases ih h with h | h
    · exact .inl (by omega)
    · exact (Memory.mem_write h).imp (fun e => by omega) id

end Sys2Proof.Machine
end

