-- ==== Sys2Proof/Laws/Checksum.lean ====
section
/-! SUPPORT. The laws of the checksum's byte step: each bit step is one-to-one, so a byte step is one-to-one in
the running value and in the byte (the ground of R305). -/

namespace Sys2Proof.Machine

theorem xor_cancel_right {w : Nat} {a b c : BitVec w} (h : a ^^^ c = b ^^^ c) : a = b := by
  have := congrArg (· ^^^ c) h
  simpa [BitVec.xor_assoc] using this

theorem xor_cancel_left {w : Nat} {a b c : BitVec w} (h : c ^^^ a = c ^^^ b) : a = b :=
  xor_cancel_right (c := c) (by rwa [BitVec.xor_comm a c, BitVec.xor_comm b c])

/-- Bit 0 after a bit step is the bit 15 that was shifted out: the generator's constant term is 1. -/
theorem crcBit_low (c : Half) : (crcBit c).getLsbD 0 = c.getLsbD 15 := by
  unfold crcBit
  cases h : c.getLsbD 15 <;> simp

/-- The bit step is one-to-one. -/
theorem crcBit_injective : Function.Injective crcBit := by
  intro c d h
  have h15 : c.getLsbD 15 = d.getLsbD 15 := by rw [← crcBit_low, ← crcBit_low, h]
  have hshift : c <<< 1 = d <<< 1 := by
    unfold crcBit at h
    rw [h15] at h
    split at h
    · exact xor_cancel_right h
    · exact h
  apply BitVec.eq_of_getLsbD_eq
  intro i hi
  by_cases e : i = 15
  · subst e; exact h15
  · have := congrArg (fun v : Half => v.getLsbD (i + 1)) hshift
    have hi' : i + 1 < 16 := by omega
    simp only [BitVec.getLsbD_shiftLeft, hi', decide_true, Bool.true_and, Nat.add_sub_cancel] at this
    simpa using this

theorem crcBits_injective (n : Nat) : Function.Injective (crcBits n) := by
  induction n with
  | zero => exact fun _ _ h => h
  | succ n ih => exact fun c d h => crcBit_injective (ih h)

/-- For one byte, different running values stay different. -/
theorem crcStep_injective_value (b : Byte) : Function.Injective fun c => crcStep c b := by
  intro c d h
  exact xor_cancel_right (crcBits_injective 8 h)

/-- For one running value, different bytes give different values. -/
theorem crcStep_injective_byte (c : Half) : Function.Injective (crcStep c) := by
  intro a b h
  have := xor_cancel_left (crcBits_injective 8 h)
  apply BitVec.eq_of_getLsbD_eq
  intro i hi
  have := congrArg (fun v : Half => v.getLsbD (i + 8)) this
  simpa [show i + 8 < 16 by omega, hi, BitVec.getLsbD_shiftLeft, BitVec.getLsbD_setWidth] using this

/-- Different running values stay different over any common stream. -/
theorem crcFold_injective (bytes : List Byte) : Function.Injective fun c => crcFold c bytes := by
  induction bytes with
  | nil => exact fun _ _ h => h
  | cons b rest ih => exact fun c d h => crcStep_injective_value b (ih h)

theorem crcFold_append (c : Half) (front back : List Byte) :
    crcFold c (front ++ back) = crcFold (crcFold c front) back := by
  simp [crcFold]

end Sys2Proof.Machine
end

