-- ==== Sys2Proof/Laws/Decode.lean ====
section
/-! SUPPORT. Small laws of decoding: payloads, little-endian halves, the command table. -/

namespace Sys2Proof

@[simp] theorem payloadOf_toList (p : Payload) : payloadOf p.toList = some p := by
  rw [payloadOf, dif_pos p.length_toList]
  rfl

theorem payloadOf_some {bytes : List Byte} {p : Payload} (h : payloadOf bytes = some p) : p.toList = bytes := by
  unfold payloadOf at h
  split at h
  · injection h with h
    subst h
    rfl
  · simp at h

theorem payloadOf_isSome {bytes : List Byte} : (payloadOf bytes).isSome = true ↔ bytes.length = 16 := by
  unfold payloadOf
  split <;> simp_all

/-- A 16-bit value is the pair of its bytes (R83). -/
@[simp] theorem halfLE_bytes (v : Half) : halfLE (loByte v) (hiByte v) = v := by
  unfold halfLE loByte hiByte
  apply BitVec.eq_of_getLsbD_eq
  intro i hi
  rw [BitVec.getLsbD_append, BitVec.getLsbD_extractLsb', BitVec.getLsbD_extractLsb']
  by_cases h : i < 8
  · simp [h]
  · simp [h, show i - 8 < 8 by omega, show 8 + (i - 8) = i by omega]

@[simp] theorem loByte_halfLE (lo hi : Byte) : loByte (halfLE lo hi) = lo := by
  unfold halfLE loByte
  apply BitVec.eq_of_getLsbD_eq
  intro i h
  rw [BitVec.getLsbD_extractLsb', BitVec.getLsbD_append]
  simp [h]

@[simp] theorem hiByte_halfLE (lo hi : Byte) : hiByte (halfLE lo hi) = hi := by
  unfold halfLE hiByte
  apply BitVec.eq_of_getLsbD_eq
  intro i h
  rw [BitVec.getLsbD_extractLsb', BitVec.getLsbD_append]
  simp [h]

/-- An op byte is the pair of its nibbles (R123). -/
@[simp] theorem opByte_nibbles (op : Byte) : opByte (opFunction op) (opSwid op) = op := by
  unfold opByte opFunction opSwid
  apply BitVec.eq_of_getLsbD_eq
  intro i hi
  rw [BitVec.getLsbD_append, BitVec.getLsbD_extractLsb', BitVec.getLsbD_extractLsb']
  by_cases h : i < 4
  · simp [h]
  · simp [h, show i - 4 < 4 by omega, show 4 + (i - 4) = i by omega]

/-- No two rows of the command table have one code (R150). -/
theorem commandTable_distinct : commandTable.Pairwise fun x y => x.1 ≠ y.1 := by
  decide

end Sys2Proof
end

