-- ==== Sys2Proof/Machine/HostPrograms.lean ====
section
/-! DEFINITION. Host programs (30_encoding.md R154, R155; 44_session_and_host_ops.md R440 to R447): statements
with labels, their assembly into positions, and the controller operations of the source. Feature indices
and the LED response count are the parameters of R9. What R9 leaves open of the LED payload and the enable
block is an argument (log 24). Every command stands before the branch to `fail` that R440 asks for, also where the
listing of the program's own rule leaves it out (log 35). -/

namespace Sys2Proof.Machine

/-- A line of a host program as R154 writes it. -/
inductive AsmItem where
  /-- `name:` -/
  | label (name : String)
  /-- A block command, or a wire frame. -/
  | cmd (i : Instr)
  /-- `HOST_IF <condition>, <label>` -/
  | hostIf (cond : HostCond) (target : String)
  /-- `HOST_GOTO <label>` -/
  | hostGoto (target : String)
  /-- `HOST_STOP` -/
  | hostStop
  deriving DecidableEq, Repr

/-- The position of a label, counting statements only; `fail` (R440), and any other label that stands nowhere, has
the position after the last statement (log 35). -/
def labelPos (name : String) : List AsmItem → Nat
  | [] => 0
  | .label l :: rest => if l = name then 0 else labelPos name rest
  | _ :: rest => labelPos name rest + 1

/-- The statement of a line, its labels replaced by positions in the whole program. -/
def assembleItem (whole : List AsmItem) : AsmItem → List HostStmt
  | .label _ => []
  | .cmd i => [stmtOfInstr i]
  | .hostIf cond target => [.branch cond (labelPos target whole)]
  | .hostGoto target => [.goto (labelPos target whole)]
  | .hostStop => [.stop]

/-- A program as the host runs it; after its last statement stands the HOST_STOP of `fail` (R440: "a host
label at which the program stops"). -/
def assemble (items : List AsmItem) : List HostStmt := items.flatMap (assembleItem items) ++ [.stop]

/-- `RES_CODE != OK` -/
def codeNotOk : HostCond := .not (.codeIn [ResultCode.ok.code])

/-- `RES_CODE not in {OK, DEVICE_REJECTED}` -/
def codeBad : HostCond := .not (.codeIn [ResultCode.ok.code, ResultCode.deviceRejected.code])

/-- A command and its branch: "Each program branches to `fail` on any result code other than those it names" (R440).
`bad` holds on every other code. -/
def branching (bad : HostCond) (i : Instr) : List AsmItem := [.cmd i, .hostIf bad "fail"]

/-- A command for which the program names no code but OK. -/
def orFail (i : Instr) : List AsmItem := branching codeNotOk i

/-- A command for which the program names OK and DEVICE_REJECTED, which reports a status. -/
def statusOrFail (i : Instr) : List AsmItem := branching codeBad i

/-- A checked response read of R441: `XFER_RECV 0`, then fail on a result other than OK or an empty read. -/
def recvChecked : List AsmItem := branching (.or codeNotOk (.dataIs 0 0)) (.xferRecv 0)

/-- QUERY_STATUS (R155). -/
def queryStatusProgram : List AsmItem := statusOrFail .seqQueryStatus

/-- SWITCH_PROFILE n (R441). FP is P_FEAT_PROFILE, `swid` the software id the session was opened with (R440). -/
def switchProfileProgram (p : Params) (swid n : Byte) : List AsmItem :=
  statusOrFail .seqQueryStatus ++ orFail (.encShort sesDevidx p.featProfile 3 swid n 0 0) ++ orFail .xferSend
  ++ recvChecked ++ recvChecked ++ recvChecked ++ statusOrFail .seqQueryStatus ++ [.hostStop]

/-- ENABLE_PROFILE mask (R442, R443): `enableBlock mask k` is line k of P_ENABLE_BLOCK(mask). -/
def enableProfileProgram (enableBlock : BitVec 5 → Nat → Payload) (mask : BitVec 5) : List AsmItem :=
  (List.range 16).flatMap (fun k => orFail (.blkWrite (BitVec.ofNat 8 k) (enableBlock mask k)))
  ++ statusOrFail (.seqRecordPass 0 0 0) ++ [.hostStop]

/-- The variants of set_led (R444). -/
inductive LedMode where
  | off
  | static (r g b : Byte)
  | cycle (speed : Half) (brightness : Byte)
  deriving DecidableEq, Repr

/-- mode_id: Off 0, Static 1, Cycle 2 (R444). -/
def LedMode.modeId : LedMode → Byte
  | .off => 0
  | .static .. => 1
  | .cycle .. => 2

/-- The bytes of a payload beside mode_id, `fields mode`, except that Off's mode-specific fields, which stand at
`offFields`, are "all zero for Off" (R444). Any other byte is as open in Off as in the other modes. -/
def ledFields (offFields : List (Fin 16)) (fields : LedMode → Payload) : LedMode → Payload
  | .off => Vector.ofFn fun o => if o ∈ offFields then 0 else (fields .off)[o]
  | .static r g b => fields (.static r g b)
  | .cycle speed brightness => fields (.cycle speed brightness)

/-- P_LED_PAYLOAD(mode), "OPEN except mode_id" (R9, R444). What the source does not give is an argument, of any value:
the offset `modeAt` of mode_id, the offsets `offFields` of Off's fields, and the other bytes `fields` (log 24). -/
def ledPayload (modeAt : Fin 16) (offFields : List (Fin 16)) (fields : LedMode → Payload) (mode : LedMode) : Payload :=
  (ledFields offFields fields mode).set modeAt.val mode.modeId

/-- The fields of the REF payloads of R444, byte 0 left for mode_id. -/
def refLedFields : LedMode → Payload
  | .off => Vector.replicate 16 0
  | .static r g b => #v[0, r, g, b, 0, 0, 0, 0, 0, 0, 0, 0, 0, 0, 0, 0]
  | .cycle speed brightness => #v[0, hiByte speed, loByte speed, brightness, 0, 0, 0, 0, 0, 0, 0, 0, 0, 0, 0, 0]

/-- The REF payloads of R444, for tests: mode_id at offset 0, Off's fields anywhere, since all its bytes are zero. -/
def refLedPayload : LedMode → Payload := ledPayload 0 [] refLedFields

/-- SET_LED mode (R444): the frame goes to the feature FL, which is P_FEAT_LED (R131, R440), and P_LED_RESPONSES reads
follow. `swid` is the software id the session was opened with. -/
def setLedProgram (p : Params) (modeAt : Fin 16) (offFields : List (Fin 16)) (fields : LedMode → Payload) (swid : Byte)
    (mode : LedMode) : List AsmItem :=
  orFail (.encLong sesDevidx p.featLed 3 swid (ledPayload modeAt offFields fields mode)) ++ orFail .xferSend
  ++ (List.replicate p.ledResponses recvChecked).flatten ++ [.hostStop]

/-- CLEAR_QUEUE (R446). -/
def clearQueueProgram : List AsmItem :=
  .label "drain" :: orFail (.xferRecv 1) ++ [.hostIf (.not (.dataIs 0 0)) "drain", .hostStop]

/-- The profile that names the block: "p' = p, or the expected profile when p = 0" (R447). -/
def nameProfile (expected profile : Byte) : Byte := if profile = 0 then expected else profile

/-- A configuration write as the source's caller makes it (R447): polling code `code`, DPI values d0 to d4, profile
`profile`. `expected` is the profile the caller expects when it is 0, and is not used otherwise. A refused BLK_BUILD ends
the program before any transport call (R440). -/
def writeConfigProgram (code : Byte) (d0 d1 d2 d3 d4 : Half) (expected profile : Byte) : List AsmItem :=
  orFail (.blkBuild code d0 d1 d2 d3 d4 (nameProfile expected profile)) ++ statusOrFail (.seqWriteConfig profile)
  ++ [.hostStop]

end Sys2Proof.Machine
end

