-- ==== Sys2Proof/Laws/HostPrograms.lean ====
section
/-! SUPPORT. The laws of the host programs: what a set_led payload always holds (R9, R444), whatever the open
offset and fields are, what ties the programs' frames to the parameters (R131, R440, R447), and that every command
of every program stands before a branch to `fail` (R440). -/

namespace Sys2Proof.Machine

/-- mode_id stands in every payload (R9: "OPEN except mode_id"). -/
theorem ledPayload_modeAt (modeAt : Fin 16) (offFields : List (Fin 16)) (fields : LedMode → Payload) (mode : LedMode) :
    (ledPayload modeAt offFields fields mode)[modeAt] = mode.modeId := by simp [ledPayload]

/-- Beside mode_id a payload holds the mode's bytes. -/
theorem ledPayload_other (modeAt : Fin 16) (offFields : List (Fin 16)) (fields : LedMode → Payload) (mode : LedMode)
    (o : Fin 16) (h : o ≠ modeAt) :
    (ledPayload modeAt offFields fields mode)[o] = (ledFields offFields fields mode)[o] := by
  have h' : ¬ modeAt.val = o.val := fun e => h (Fin.ext e.symm)
  simp [ledPayload, h']

/-- Off's mode-specific fields are zero (R444). -/
theorem ledFields_off_field (offFields : List (Fin 16)) (fields : LedMode → Payload) (o : Fin 16) (h : o ∈ offFields) :
    (ledFields offFields fields .off)[o] = 0 := by
  simp [ledFields, h]

/-- Off's other bytes are open, as R9 says. -/
theorem ledFields_off_open (offFields : List (Fin 16)) (fields : LedMode → Payload) (o : Fin 16) (h : o ∉ offFields) :
    (ledFields offFields fields .off)[o] = (fields .off)[o] := by
  simp [ledFields, h]

/-- Two modes with different mode ids have different payloads. -/
theorem ledPayload_ne (modeAt : Fin 16) (offFields : List (Fin 16)) (fields : LedMode → Payload) (m m' : LedMode)
    (h : m.modeId ≠ m'.modeId) : ledPayload modeAt offFields fields m ≠ ledPayload modeAt offFields fields m' := fun e =>
  h (by rw [← ledPayload_modeAt modeAt offFields fields m, e, ledPayload_modeAt])

/-- SET_LED builds its frame for P_FEAT_LED (R131, R440). -/
theorem setLedProgram_frame (p : Params) (modeAt : Fin 16) (offFields : List (Fin 16)) (fields : LedMode → Payload)
    (swid : Byte) (mode : LedMode) :
    (setLedProgram p modeAt offFields fields swid mode).head? =
      some (.cmd (.encLong 0xFF p.featLed 3 swid (ledPayload modeAt offFields fields mode))) := rfl

/-- SWITCH_PROFILE builds its frame for P_FEAT_PROFILE (R440, R441). -/
theorem switchProfileProgram_frame (p : Params) (swid n : Byte) :
    (switchProfileProgram p swid n)[2]? = some (.cmd (.encShort 0xFF p.featProfile 3 swid n 0 0)) := rfl

/-- A profile other than 0 names the block (R447). -/
theorem nameProfile_of_ne_zero (expected profile : Byte) (h : profile ≠ 0) : nameProfile expected profile = profile :=
  if_neg h

/-- With profile 0 the expected profile names it (R447). -/
theorem nameProfile_zero (expected : Byte) : nameProfile expected 0 = expected := rfl

/-! ## The branches to `fail` (R440) -/

/-- `RES_CODE != OK` says what it reads. -/
@[simp] theorem condHolds_codeNotOk (s : State) : condHolds s codeNotOk = true ↔ s.res.code ≠ .ok := by
  cases h : s.res.code <;> simp [codeNotOk, condHolds, h, ResultCode.code]

/-- `RES_CODE not in (OK, DEVICE_REJECTED)` says what it reads. -/
@[simp] theorem condHolds_codeBad (s : State) :
    condHolds s codeBad = true ↔ s.res.code ≠ .ok ∧ s.res.code ≠ .deviceRejected := by
  cases h : s.res.code <;> simp [codeBad, condHolds, h, ResultCode.code]

/-- Every command stands before a branch to `fail` that holds on every code but OK and DEVICE_REJECTED (R440). -/
def BranchesToFail : List AsmItem → Prop
  | [] => True
  | .cmd _ :: rest =>
    (∃ bad after, rest = .hostIf bad "fail" :: after ∧
      ∀ s : State, s.res.code ≠ .ok → s.res.code ≠ .deviceRejected → condHolds s bad = true) ∧ BranchesToFail rest
  | .label _ :: rest | .hostIf _ _ :: rest | .hostGoto _ :: rest | .hostStop :: rest => BranchesToFail rest

/-- Programs one after the other keep it. -/
theorem BranchesToFail.append {p q : List AsmItem} (hp : BranchesToFail p) (hq : BranchesToFail q) :
    BranchesToFail (p ++ q) := by
  induction p with
  | nil => exact hq
  | cons item rest ih =>
    cases item with
    | cmd i =>
      obtain ⟨⟨bad, after, rfl, h⟩, hr⟩ := hp
      exact ⟨⟨bad, after ++ q, rfl, h⟩, ih hr⟩
    | label _ => exact ih hp
    | hostIf _ _ => exact ih hp
    | hostGoto _ => exact ih hp
    | hostStop => exact ih hp

/-- So does any number of them. -/
theorem BranchesToFail.flatten {ps : List (List AsmItem)} (h : ∀ p ∈ ps, BranchesToFail p) : BranchesToFail ps.flatten := by
  induction ps with
  | nil => trivial
  | cons p rest ih => exact (h p (by simp)).append (ih fun q hq => h q (by simp [hq]))

theorem branchesToFail_stop : BranchesToFail [.hostStop] := trivial

theorem branchesToFail_orFail (i : Instr) : BranchesToFail (orFail i) :=
  ⟨⟨codeNotOk, [], rfl, fun s h _ => (condHolds_codeNotOk s).mpr h⟩, trivial⟩

theorem branchesToFail_statusOrFail (i : Instr) : BranchesToFail (statusOrFail i) :=
  ⟨⟨codeBad, [], rfl, fun s h h' => (condHolds_codeBad s).mpr ⟨h, h'⟩⟩, trivial⟩

theorem branchesToFail_recvChecked : BranchesToFail recvChecked :=
  ⟨⟨.or codeNotOk (.dataIs 0 0), [], rfl, fun s h _ => by simp [condHolds, (condHolds_codeNotOk s).mpr h]⟩, trivial⟩

/-- R440 of QUERY_STATUS. -/
theorem branchesToFail_queryStatus : BranchesToFail queryStatusProgram := branchesToFail_statusOrFail _

/-- R440 of SWITCH_PROFILE. -/
theorem branchesToFail_switchProfile (p : Params) (swid n : Byte) : BranchesToFail (switchProfileProgram p swid n) :=
  (((((((branchesToFail_statusOrFail _).append (branchesToFail_orFail _)).append (branchesToFail_orFail _)).append
    branchesToFail_recvChecked).append branchesToFail_recvChecked).append branchesToFail_recvChecked).append
    (branchesToFail_statusOrFail _)).append branchesToFail_stop

/-- R440 of ENABLE_PROFILE. -/
theorem branchesToFail_enableProfile (enableBlock : BitVec 5 → Nat → Payload) (mask : BitVec 5) :
    BranchesToFail (enableProfileProgram enableBlock mask) := by
  refine (BranchesToFail.append ?_ (branchesToFail_statusOrFail _)).append branchesToFail_stop
  rw [List.flatMap_def]
  exact .flatten fun p hp => by obtain ⟨k, -, rfl⟩ := List.mem_map.mp hp; exact branchesToFail_orFail _

/-- R440 of SET_LED. -/
theorem branchesToFail_setLed (p : Params) (modeAt : Fin 16) (offFields : List (Fin 16)) (fields : LedMode → Payload)
    (swid : Byte) (mode : LedMode) : BranchesToFail (setLedProgram p modeAt offFields fields swid mode) :=
  (((branchesToFail_orFail _).append (branchesToFail_orFail _)).append
    (.flatten fun _ hq => List.eq_of_mem_replicate hq ▸ branchesToFail_recvChecked)).append branchesToFail_stop

/-- R440 of CLEAR_QUEUE. -/
theorem branchesToFail_clearQueue : BranchesToFail clearQueueProgram :=
  (branchesToFail_orFail (.xferRecv 1)).append (q := [.hostIf (.not (.dataIs 0 0)) "drain", .hostStop]) trivial

/-- R440 of a configuration write. -/
theorem branchesToFail_writeConfig (code : Byte) (d0 d1 d2 d3 d4 : Half) (expected profile : Byte) :
    BranchesToFail (writeConfigProgram code d0 d1 d2 d3 d4 expected profile) :=
  ((branchesToFail_orFail _).append (branchesToFail_statusOrFail _)).append branchesToFail_stop

end Sys2Proof.Machine
end

