-- ==== Sys2Proof/Laws/Ops.lean ====
section
/-! SUPPORT. What each shared operation can do, said once: the admission of a command, a composite of two
commands, a send and a receive. Later proofs cite these and do not unfold the operations. -/

namespace Sys2Proof.Machine

/-! ## Reset (R600) -/

/-- The state right after reset is what the reset event leaves of it. -/
theorem powerOn_reset : powerOn State.reset = State.reset := rfl

/-- What a reset leaves does not depend on the registers it finds, so neither on the command it interrupts. -/
theorem powerOn_congr {s t : State} (hh : s.history = t.history) (hp : s.par = t.par)
    (hw : s.writeScript = t.writeScript) (hr : s.readScript = t.readScript) (hf : s.free = t.free)
    (hg : s.prog = t.prog) (hq : s.pos = t.pos) : powerOn s = powerOn t := by
  simp only [powerOn, hh, hp, hw, hr, hf, hg, hq]

/-! ## Admission (R513) -/

@[simp] theorem firstFailing_nil : firstFailing [] = none := rfl

@[simp] theorem firstFailing_some (failure : ResultCode × Byte) (rest : List Check) :
    firstFailing (some failure :: rest) = some failure := rfl

@[simp] theorem firstFailing_none (rest : List Check) : firstFailing (none :: rest) = firstFailing rest := rfl

@[simp] theorem check_true (code : ResultCode) (aux : Byte) : check true code aux = some (code, aux) := rfl

@[simp] theorem check_false (code : ResultCode) (aux : Byte) : check false code aux = none := rfl

/-- A command whose checks all pass runs its body. -/
theorem guarded_pass {checks : List Check} {s : State} {body : State → Outcome} (h : firstFailing checks = none) :
    guarded checks s body = body s := by
  simp only [guarded, h]

/-- A command with a failing check ends with the first one's code (R513). -/
theorem guarded_refuse {checks : List Check} {s : State} {body : State → Outcome} {code : ResultCode} {aux : Byte}
    (h : firstFailing checks = some (code, aux)) : guarded checks s body = .next (raise .outside code aux s) := by
  simp only [guarded, h]

/-- Everything an admission can do. -/
theorem guarded_cases (checks : List Check) (s : State) (body : State → Outcome) :
    (firstFailing checks = none ∧ guarded checks s body = body s) ∨
    (∃ code aux, firstFailing checks = some (code, aux) ∧
      guarded checks s body = .next (raise .outside code aux s)) := by
  cases h : firstFailing checks with
  | none => exact .inl ⟨rfl, guarded_pass h⟩
  | some failure => exact .inr ⟨failure.1, failure.2, rfl, guarded_refuse h⟩

/-- The first failing check is one of the checks. -/
theorem firstFailing_mem {checks : List Check} {failure : ResultCode × Byte} (h : firstFailing checks = some failure) :
    some failure ∈ checks := by
  induction checks with
  | nil => simp at h
  | cons c rest ih =>
    cases c with
    | none => exact List.mem_cons_of_mem _ (ih (by simpa using h))
    | some f =>
      simp only [firstFailing_some, Option.some.injEq] at h
      simp [h]

/-- The session checks pass exactly in an open session without a fatal error (R512). -/
theorem transportChecks_pass {s : State} (ho : s.ses.isOpen = true) (hf : s.ses.fatal = false) (rest : List Check) :
    firstFailing (transportChecks s ++ rest) = firstFailing rest := by
  simp [transportChecks, ho, hf]

/-- What the session checks leave when they pass (R512). -/
theorem open_of_transportChecks {s : State} {rest : List Check}
    (h : firstFailing (transportChecks s ++ rest) = none) :
    s.ses.isOpen = true ∧ s.ses.fatal = false ∧ firstFailing rest = none := by
  cases ho : s.ses.isOpen <;> cases hf : s.ses.fatal <;> simp_all [transportChecks]

/-! ## Composites (R440) -/

theorem andThen_ok {t : State} (h : t.res.code = .ok) (second : State → Outcome) :
    andThen (.next t) second = second t := by
  simp only [andThen, h, if_true]

theorem andThen_stop {t : State} (h : t.res.code ≠ .ok) (second : State → Outcome) :
    andThen (.next t) second = .next t := by
  simp only [andThen, h, if_false]

/-- A composite that answers a next state: the first command's, if it did not end with OK, else the
second's. -/
theorem andThen_next {first : Outcome} {second : State → Outcome} {t : State} (h : andThen first second = .next t) :
    ∃ u, first = .next u ∧ ((u.res.code ≠ .ok ∧ u = t) ∨ (u.res.code = .ok ∧ second u = .next t)) := by
  cases first with
  | next u =>
    refine ⟨u, rfl, ?_⟩
    by_cases hu : u.res.code = .ok
    · exact .inr ⟨hu, (andThen_ok hu second) ▸ h⟩
    · rw [andThen_stop hu] at h
      exact .inl ⟨hu, by injection h⟩
  | fault f => simp [andThen] at h
  | refused r => simp [andThen] at h

/-! ## The transport port -/

/-- Everything a send can do (R204, R380). -/
theorem send_cases (site : RaiseSite) (s : State) :
    (nextWriteAnswer s = .ok s.olen.bytes ∧ send site s = .ok (afterWrite s)) ∨
    (nextWriteAnswer s ≠ .ok s.olen.bytes ∧ send site s = .error (raise site .transportError 1 (afterWrite s))) := by
  unfold send
  split
  · next h => exact .inl ⟨h, rfl⟩
  · next h => exact .inr ⟨h, rfl⟩

/-- Everything a receive can do (R205, R380). -/
theorem recv_cases (site : RaiseSite) (timeout : Nat) (s : State) :
    (∃ bytes, nextReadAnswer timeout s = .ok bytes ∧ bytes.length ≤ 20 ∧
      recv site timeout s = .ok (storeInbound bytes (afterRead timeout s))) ∨
    (nextReadAnswer timeout s = .fail ∧
      recv site timeout s = .error (raise site .transportError 2 (afterRead timeout s))) := by
  unfold recv
  split
  · next bytes h => exact .inl ⟨bytes, h, nextReadAnswer_length h, rfl⟩
  · next h => exact .inr ⟨h, rfl⟩

/-- The call a send makes carries the frame in OBUF (R130). -/
theorem controlWrite_loadFrame {len : OutLen} {frame : List Byte} {s : State} (h : frame.length = len.bytes) :
    controlWrite (loadFrame len frame s) =
      ⟨0x21, 9, if len = .short then 0x0210 else 0x0211, s.ses.ifnum, frame, s.par.timeout⟩ := by
  unfold controlWrite
  rw [frameOut_loadFrame len frame s h]
  rfl

end Sys2Proof.Machine
end

