-- ==== Sys2Proof/Laws/PerInstr.lean ====
section
/-! SUPPORT. Facts about every instruction as syntax, one lemma for each constructor. The family Length: an
instruction's encoding has the length its row of spec/opcode_table.json gives. -/

namespace Sys2Proof.Laws

/-- The length column of the opcode table, in bytes. -/
def rowLength : Instr → Nat
  | .sessionOpen .. => 5
  | .sessionClose => 1
  | .encShort .. => 8
  | .encLong .. => 21
  | .decStatus => 1
  | .classify => 1
  | .xferSend => 1
  | .xferRecv .. => 2
  | .crcInit => 1
  | .crcUpdate .. => 2
  | .crcBlock => 1
  | .crcRead => 1
  | .blkWrite .. => 18
  | .blkRead .. => 2
  | .blkBuild .. => 13
  | .seqQueryStatus => 1
  | .seqRecordPass .. => 4
  | .seqWriteConfig .. => 2
  | .rootShort .. => 7
  | .rootLong .. => 20
  | .getFeatureShort .. => 7
  | .getFeatureLong .. => 20
  | .connCheckShort .. => 7
  | .connCheckLong .. => 20
  | .profileSwitchShort .. => 7
  | .setColorLong .. => 20
  | .statusShort .. => 7
  | .statusLong .. => 20
  | .readRecordShort .. => 7
  | .readRecordLong .. => 20
  | .startRecordShort .. => 7
  | .startRecordLong .. => 20
  | .writeRecordShort .. => 7
  | .writeRecordLong .. => 20
  | .endRecordShort .. => 7
  | .endRecordLong .. => 20
  | .errBShort .. => 7
  | .errBLong .. => 20
  | .errCShort .. => 7
  | .errCLong .. => 20

/-- The encoding has its row's length. -/
def Length.Statement (i : Instr) : Prop := (encode i).length = rowLength i

theorem Length.sessionOpen (ifnum epIn epOut swid : Byte) : Length.Statement (.sessionOpen ifnum epIn epOut swid) := rfl
theorem Length.sessionClose : Length.Statement .sessionClose := rfl
theorem Length.encShort (dev feat fn sw a b c : Byte) : Length.Statement (.encShort dev feat fn sw a b c) := rfl
theorem Length.encLong (dev feat fn sw : Byte) (payload : Payload) : Length.Statement (.encLong dev feat fn sw payload) := by
  simp [Length.Statement, encode, rowLength]
theorem Length.decStatus : Length.Statement .decStatus := rfl
theorem Length.classify : Length.Statement .classify := rfl
theorem Length.xferSend : Length.Statement .xferSend := rfl
theorem Length.xferRecv (tsel : Byte) : Length.Statement (.xferRecv tsel) := rfl
theorem Length.crcInit : Length.Statement .crcInit := rfl
theorem Length.crcUpdate (b : Byte) : Length.Statement (.crcUpdate b) := rfl
theorem Length.crcBlock : Length.Statement .crcBlock := rfl
theorem Length.crcRead : Length.Statement .crcRead := rfl
theorem Length.blkWrite (line : Byte) (data : Payload) : Length.Statement (.blkWrite line data) := by
  simp [Length.Statement, encode, rowLength]
theorem Length.blkRead (line : Byte) : Length.Statement (.blkRead line) := rfl
theorem Length.blkBuild (poll : Byte) (dpi0 dpi1 dpi2 dpi3 dpi4 : Half) (profile : Byte) : Length.Statement (.blkBuild poll dpi0 dpi1 dpi2 dpi3 dpi4 profile) := rfl
theorem Length.seqQueryStatus : Length.Statement .seqQueryStatus := rfl
theorem Length.seqRecordPass (profile widmode wid : Byte) : Length.Statement (.seqRecordPass profile widmode wid) := rfl
theorem Length.seqWriteConfig (profile : Byte) : Length.Statement (.seqWriteConfig profile) := rfl
theorem Length.rootShort (dev feat : Byte) (sw : Nibble) (a b c : Byte) : Length.Statement (.rootShort dev feat sw a b c) := rfl
theorem Length.rootLong (dev feat : Byte) (sw : Nibble) (payload : Payload) : Length.Statement (.rootLong dev feat sw payload) := by
  simp [Length.Statement, encode, rowLength, longFrame]
theorem Length.getFeatureShort (dev feat : Byte) (sw : Nibble) (a b c : Byte) : Length.Statement (.getFeatureShort dev feat sw a b c) := rfl
theorem Length.getFeatureLong (dev feat : Byte) (sw : Nibble) (payload : Payload) : Length.Statement (.getFeatureLong dev feat sw payload) := by
  simp [Length.Statement, encode, rowLength, longFrame]
theorem Length.connCheckShort (dev feat : Byte) (sw : Nibble) (a b c : Byte) : Length.Statement (.connCheckShort dev feat sw a b c) := rfl
theorem Length.connCheckLong (dev feat : Byte) (sw : Nibble) (payload : Payload) : Length.Statement (.connCheckLong dev feat sw payload) := by
  simp [Length.Statement, encode, rowLength, longFrame]
theorem Length.profileSwitchShort (dev feat : Byte) (sw : Nibble) (a b c : Byte) : Length.Statement (.profileSwitchShort dev feat sw a b c) := rfl
theorem Length.setColorLong (dev feat : Byte) (sw : Nibble) (payload : Payload) : Length.Statement (.setColorLong dev feat sw payload) := by
  simp [Length.Statement, encode, rowLength, longFrame]
theorem Length.statusShort (dev feat : Byte) (sw : Nibble) (a b c : Byte) : Length.Statement (.statusShort dev feat sw a b c) := rfl
theorem Length.statusLong (dev feat : Byte) (sw : Nibble) (payload : Payload) : Length.Statement (.statusLong dev feat sw payload) := by
  simp [Length.Statement, encode, rowLength, longFrame]
theorem Length.readRecordShort (dev feat : Byte) (sw : Nibble) (a b c : Byte) : Length.Statement (.readRecordShort dev feat sw a b c) := rfl
theorem Length.readRecordLong (dev feat : Byte) (sw : Nibble) (payload : Payload) : Length.Statement (.readRecordLong dev feat sw payload) := by
  simp [Length.Statement, encode, rowLength, longFrame]
theorem Length.startRecordShort (dev feat : Byte) (sw : Nibble) (a b c : Byte) : Length.Statement (.startRecordShort dev feat sw a b c) := rfl
theorem Length.startRecordLong (dev feat : Byte) (sw : Nibble) (payload : Payload) : Length.Statement (.startRecordLong dev feat sw payload) := by
  simp [Length.Statement, encode, rowLength, longFrame]
theorem Length.writeRecordShort (dev feat : Byte) (sw : Nibble) (a b c : Byte) : Length.Statement (.writeRecordShort dev feat sw a b c) := rfl
theorem Length.writeRecordLong (dev feat : Byte) (sw : Nibble) (payload : Payload) : Length.Statement (.writeRecordLong dev feat sw payload) := by
  simp [Length.Statement, encode, rowLength, longFrame]
theorem Length.endRecordShort (dev feat : Byte) (sw : Nibble) (a b c : Byte) : Length.Statement (.endRecordShort dev feat sw a b c) := rfl
theorem Length.endRecordLong (dev feat : Byte) (sw : Nibble) (payload : Payload) : Length.Statement (.endRecordLong dev feat sw payload) := by
  simp [Length.Statement, encode, rowLength, longFrame]
theorem Length.errBShort (dev feat : Byte) (sw : Nibble) (a b c : Byte) : Length.Statement (.errBShort dev feat sw a b c) := rfl
theorem Length.errBLong (dev feat : Byte) (sw : Nibble) (payload : Payload) : Length.Statement (.errBLong dev feat sw payload) := by
  simp [Length.Statement, encode, rowLength, longFrame]
theorem Length.errCShort (dev feat : Byte) (sw : Nibble) (a b c : Byte) : Length.Statement (.errCShort dev feat sw a b c) := rfl
theorem Length.errCLong (dev feat : Byte) (sw : Nibble) (payload : Payload) : Length.Statement (.errCLong dev feat sw payload) := by
  simp [Length.Statement, encode, rowLength, longFrame]

end Sys2Proof.Laws
end

