-- ==== Sys2Proof/Laws/Sequencer.lean ====
section
/-! SUPPORT. The laws of the sequencer's parts: a refusal outside a sequencer command, the run of steps, what a
receive step of a pass can do, and what a read leaves for the class and the status. -/

namespace Sys2Proof.Machine

/-- With an idle sequencer a refusal changes only RES_*, if its code is not TRANSPORT_ERROR or SES_FATAL is already
set (R500, R510, R511). -/
theorem raise_outside_idle {s : State} (h : SequencerIdle s) (code : ResultCode) (aux : Byte)
    (hc : code ≠ .transportError ∨ s.ses.fatal = true) :
    raise .outside code aux s = { s with res := ⟨code, ⟨0, 0, 0, aux⟩, []⟩ } := by
  obtain ⟨hop, hphase, hpass⟩ := h
  have hseq : { s.seq with op := .none, phase := .idle, pass := 0 } = s.seq := by rw [← hop, ← hphase, ← hpass]
  have hses : ({ s.ses with fatal := s.ses.fatal || decide (code = .transportError) } : Session) = s.ses := by
    rcases hc with hc | hc
    · simp [hc]
    · rw [hc, Bool.true_or, ← hc]
  unfold raise faultRecord
  simp only [hseq, hses]

/-! ## The run of steps (R380) -/

theorem seqRun_idle (n : Nat) {s : State} (h : s.seq.phase = .idle) : seqRun n s = .next s := by
  cases n <;> simp only [seqRun, h, if_true]

theorem seqRun_succ (n : Nat) {s : State} (h : s.seq.phase ≠ .idle) : seqRun (n + 1) s = seqRun n (seqStep s) := by
  simp only [seqRun, h, if_false]

/-- A run that answers a next state ends with an idle phase, after at most `n` steps. -/
theorem seqRun_next {n : Nat} {s t : State} (h : seqRun n s = .next t) :
    ∃ k, k ≤ n ∧ t = seqStep^[k] s ∧ t.seq.phase = .idle := by
  induction n generalizing s with
  | zero =>
    unfold seqRun at h
    split at h
    · next hp => injection h with h; exact ⟨0, Nat.le_refl _, h.symm, h ▸ hp⟩
    · cases h
  | succ n ih =>
    by_cases hp : s.seq.phase = .idle
    · rw [seqRun_idle _ hp] at h
      injection h with h
      exact ⟨0, Nat.zero_le _, h.symm, h ▸ hp⟩
    · rw [seqRun_succ _ hp] at h
      obtain ⟨k, hk, ht, hi⟩ := ih h
      exact ⟨k + 1, by omega, ht, hi⟩

/-! ## A read's class and status -/

theorem getElem_storeInbound {bytes : List Byte} (s : State) {i : Nat} (h : i < 20) (h' : i < bytes.length) :
    (storeInbound bytes s).ibuf[i] = bytes.getD i 0 := by
  simp only [storeInbound_ibuf]
  rw [getElem_inbound _ _ i h h']
  simp [h']

/-- The class of the frame a read of `bytes` leaves in IBUF (R129, R203). -/
theorem frameClass_storeInbound {bytes : List Byte} (h : bytes.length ≤ 20) (s : State) :
    frameClass (storeInbound bytes s) =
      if bytes.length = 0 then .empty
      else if bytes.length ≤ 3 then .runt
      else if bytes.getD 3 0 = 0 then .discard
      else .candidate := by
  unfold frameClass
  simp only [storeInbound_ilen, Nat.min_eq_left h]
  split
  · rfl
  · split
    · rfl
    · rw [getElem_storeInbound s (by omega) (by omega)]

/-- The status that a read of `bytes` leaves to decode (R202). -/
theorem decodedStatus_storeInbound {bytes : List Byte} (h : bytes.length ≤ 20) (s : State) :
    decodedStatus (storeInbound bytes s) =
      if bytes.length = 20 then ⟨true, bytes.getD 4 0, bytes.getD 5 0⟩ else Status.zero := by
  unfold decodedStatus
  simp only [storeInbound_ilen, Nat.min_eq_left h]
  split
  · rw [getElem_storeInbound s (by omega) (by omega), getElem_storeInbound s (by omega) (by omega)]
  · rfl

/-- Everything a receive step of a pass can do (R380, R501). -/
theorem paced_cases (use : State → State) (s : State) :
    (∃ bytes, nextReadAnswer s.par.timeout s = .ok bytes ∧ bytes.length ≤ 20 ∧ bytes ≠ [] ∧
      paced use s = use (storeInbound bytes (afterRead s.par.timeout s))) ∨
    (nextReadAnswer s.par.timeout s = .ok [] ∧
      paced use s = raise .step .transportError 3 (storeInbound [] (afterRead s.par.timeout s))) ∨
    (nextReadAnswer s.par.timeout s = .fail ∧
      paced use s = raise .step .transportError 2 (afterRead s.par.timeout s)) := by
  unfold paced
  rcases recv_cases .step s.par.timeout s with ⟨bytes, ha, hl, hr⟩ | ⟨ha, hr⟩
  · by_cases he : bytes = []
    · subst he
      exact .inr (.inl ⟨ha, by rw [hr]; simp⟩)
    · exact .inl ⟨bytes, ha, hl, he, by rw [hr]; simp [he]⟩
  · exact .inr (.inr ⟨ha, by rw [hr]⟩)

/-- The End status goes to END_ST1 in pass 1 and to END_ST2 in any other (R380). -/
theorem recordEndStatus_eq (st : Status) (s : State) :
    recordEndStatus st s =
      { s with seq := if s.seq.pass = 1 then { s.seq with endSt1 := st } else { s.seq with endSt2 := st } } := by
  unfold recordEndStatus
  split <;> rfl

end Sys2Proof.Machine
end

