-- ==== Sys2Proof/Machine/Assembly.lean ====
section
/-! DEFINITION. The assembler's text (30_encoding.md R154): a mnemonic, then its operands separated by commas, a
byte sequence in brackets. No step reads this text; it is how a host program is written down (log 31). -/

namespace Sys2Proof.Machine

/-- An operand as the text writes it. -/
inductive AsmOperand where
  /-- One byte. -/
  | byte (b : Byte)
  /-- A software id of a wire frame. -/
  | nibble (n : Nibble)
  /-- A DPI value. -/
  | half (v : Half)
  /-- A byte sequence. -/
  | bytes (l : List Byte)
  deriving DecidableEq, Repr

/-- The mnemonic of the opcode table. -/
def mnemonicOf : Instr → String
  | .sessionOpen .. => "SESSION_OPEN"
  | .sessionClose => "SESSION_CLOSE"
  | .encShort .. => "ENC_SHORT"
  | .encLong .. => "ENC_LONG"
  | .decStatus => "DEC_STATUS"
  | .classify => "CLASSIFY"
  | .xferSend => "XFER_SEND"
  | .xferRecv .. => "XFER_RECV"
  | .crcInit => "CRC_INIT"
  | .crcUpdate .. => "CRC_UPDATE"
  | .crcBlock => "CRC_BLOCK"
  | .crcRead => "CRC_READ"
  | .blkWrite .. => "BLK_WRITE"
  | .blkRead .. => "BLK_READ"
  | .blkBuild .. => "BLK_BUILD"
  | .seqQueryStatus => "SEQ_QUERY_STATUS"
  | .seqRecordPass .. => "SEQ_RECORD_PASS"
  | .seqWriteConfig .. => "SEQ_WRITE_CONFIG"
  | .rootShort .. => "ROOT.short"
  | .rootLong .. => "ROOT.long"
  | .getFeatureShort .. => "GET_FEATURE.short"
  | .getFeatureLong .. => "GET_FEATURE.long"
  | .connCheckShort .. => "CONN_CHECK.short"
  | .connCheckLong .. => "CONN_CHECK.long"
  | .profileSwitchShort .. => "PROFILE_SWITCH.short"
  | .setColorLong .. => "SET_COLOR.long"
  | .statusShort .. => "STATUS.short"
  | .statusLong .. => "STATUS.long"
  | .readRecordShort .. => "READ_RECORD.short"
  | .readRecordLong .. => "READ_RECORD.long"
  | .startRecordShort .. => "START_RECORD.short"
  | .startRecordLong .. => "START_RECORD.long"
  | .writeRecordShort .. => "WRITE_RECORD.short"
  | .writeRecordLong .. => "WRITE_RECORD.long"
  | .endRecordShort .. => "END_RECORD.short"
  | .endRecordLong .. => "END_RECORD.long"
  | .errBShort .. => "ERR_B.short"
  | .errBLong .. => "ERR_B.long"
  | .errCShort .. => "ERR_C.short"
  | .errCLong .. => "ERR_C.long"

/-- The operands in the order of R150, and for a wire frame in the order of R121 and R122. -/
def asmOperandsOf : Instr → List AsmOperand
  | .sessionOpen ifnum epIn epOut swid => [.byte ifnum, .byte epIn, .byte epOut, .byte swid]
  | .sessionClose => []
  | .encShort dev feat fn sw a b c => [.byte dev, .byte feat, .byte fn, .byte sw, .byte a, .byte b, .byte c]
  | .encLong dev feat fn sw payload => [.byte dev, .byte feat, .byte fn, .byte sw, .bytes payload.toList]
  | .decStatus => []
  | .classify => []
  | .xferSend => []
  | .xferRecv tsel => [.byte tsel]
  | .crcInit => []
  | .crcUpdate b => [.byte b]
  | .crcBlock => []
  | .crcRead => []
  | .blkWrite line data => [.byte line, .bytes data.toList]
  | .blkRead line => [.byte line]
  | .blkBuild poll dpi0 dpi1 dpi2 dpi3 dpi4 profile => [.byte poll, .half dpi0, .half dpi1, .half dpi2, .half dpi3, .half dpi4, .byte profile]
  | .seqQueryStatus => []
  | .seqRecordPass profile widmode wid => [.byte profile, .byte widmode, .byte wid]
  | .seqWriteConfig profile => [.byte profile]
  | .rootShort dev feat sw a b c => [.byte dev, .byte feat, .nibble sw, .byte a, .byte b, .byte c]
  | .rootLong dev feat sw payload => [.byte dev, .byte feat, .nibble sw, .bytes payload.toList]
  | .getFeatureShort dev feat sw a b c => [.byte dev, .byte feat, .nibble sw, .byte a, .byte b, .byte c]
  | .getFeatureLong dev feat sw payload => [.byte dev, .byte feat, .nibble sw, .bytes payload.toList]
  | .connCheckShort dev feat sw a b c => [.byte dev, .byte feat, .nibble sw, .byte a, .byte b, .byte c]
  | .connCheckLong dev feat sw payload => [.byte dev, .byte feat, .nibble sw, .bytes payload.toList]
  | .profileSwitchShort dev feat sw a b c => [.byte dev, .byte feat, .nibble sw, .byte a, .byte b, .byte c]
  | .setColorLong dev feat sw payload => [.byte dev, .byte feat, .nibble sw, .bytes payload.toList]
  | .statusShort dev feat sw a b c => [.byte dev, .byte feat, .nibble sw, .byte a, .byte b, .byte c]
  | .statusLong dev feat sw payload => [.byte dev, .byte feat, .nibble sw, .bytes payload.toList]
  | .readRecordShort dev feat sw a b c => [.byte dev, .byte feat, .nibble sw, .byte a, .byte b, .byte c]
  | .readRecordLong dev feat sw payload => [.byte dev, .byte feat, .nibble sw, .bytes payload.toList]
  | .startRecordShort dev feat sw a b c => [.byte dev, .byte feat, .nibble sw, .byte a, .byte b, .byte c]
  | .startRecordLong dev feat sw payload => [.byte dev, .byte feat, .nibble sw, .bytes payload.toList]
  | .writeRecordShort dev feat sw a b c => [.byte dev, .byte feat, .nibble sw, .byte a, .byte b, .byte c]
  | .writeRecordLong dev feat sw payload => [.byte dev, .byte feat, .nibble sw, .bytes payload.toList]
  | .endRecordShort dev feat sw a b c => [.byte dev, .byte feat, .nibble sw, .byte a, .byte b, .byte c]
  | .endRecordLong dev feat sw payload => [.byte dev, .byte feat, .nibble sw, .bytes payload.toList]
  | .errBShort dev feat sw a b c => [.byte dev, .byte feat, .nibble sw, .byte a, .byte b, .byte c]
  | .errBLong dev feat sw payload => [.byte dev, .byte feat, .nibble sw, .bytes payload.toList]
  | .errCShort dev feat sw a b c => [.byte dev, .byte feat, .nibble sw, .byte a, .byte b, .byte c]
  | .errCLong dev feat sw payload => [.byte dev, .byte feat, .nibble sw, .bytes payload.toList]

/-- The digit characters of a number in base 16. -/
def hexDigit (n : Nat) : Char :=
  (['0', '1', '2', '3', '4', '5', '6', '7', '8', '9', 'A', 'B', 'C', 'D', 'E', 'F']).getD (n % 16) '0'

/-- `n` base-16 digits of a number. -/
def hexDigits : Nat → Nat → List Char
  | 0, _ => []
  | n + 1, v => hexDigits n (v / 16) ++ [hexDigit v]

/-- The characters of an operand: a number as `0x..`, a byte sequence as `[00 01 .. 0F]`. -/
def operandChars : AsmOperand → List Char
  | .byte b => '0' :: 'x' :: hexDigits 2 b.toNat
  | .nibble n => '0' :: 'x' :: hexDigits 1 n.toNat
  | .half v => '0' :: 'x' :: hexDigits 4 v.toNat
  | .bytes l => '[' :: [' '].intercalate (l.map fun b => hexDigits 2 b.toNat) ++ [']']

/-- A command as the text writes it. -/
def instrChars (i : Instr) : List Char :=
  match asmOperandsOf i with
  | [] => (mnemonicOf i).toList
  | operands => (mnemonicOf i).toList ++ ' ' :: [',', ' '].intercalate (operands.map operandChars)

/-- A condition as the text writes it; only RES_CODE and RES_DATA stand in one (R154). DESIGN CHOICE: R154 gives
`<condition>` no syntax, so the words `in`, `not` and `or`, the sign `=`, the brackets around a set of codes and the
round brackets are the model's (log 31). -/
def condChars : HostCond → List Char
  | .codeIn codes => "RES_CODE in ".toList ++ operandChars (.bytes codes)
  | .dataIs i v => "RES_DATA[".toList ++ (Nat.toDigits 10 i) ++ "] = ".toList ++ operandChars (.byte v)
  | .not c => "not (".toList ++ condChars c ++ ")".toList
  | .or c d => "(".toList ++ condChars c ++ ") or (".toList ++ condChars d ++ ")".toList

/-- A line of a host program as the text writes it. -/
def itemChars : AsmItem → List Char
  | .label name => name.toList ++ [':']
  | .cmd i => instrChars i
  | .hostIf cond target => "HOST_IF ".toList ++ condChars cond ++ ", ".toList ++ target.toList
  | .hostGoto target => "HOST_GOTO ".toList ++ target.toList
  | .hostStop => "HOST_STOP".toList

/-- The text of a host program, one line for each item. -/
def asmText (items : List AsmItem) : String :=
  String.ofList (['\n'].intercalate (items.map itemChars))

end Sys2Proof.Machine
end

