-- ==== Sys2Proof/Tests/Slice0.lean ====
section
/-! SUPPORT. The model's own tests. Expected values come from spec/95_test_vectors.md (V-…), from the encodings of
30_encoding.md and 41_wire_functions.md, or from the operand ranges of R151; the witnesses show for each statement
with hypotheses a concrete state and operands that meet them. -/

namespace Sys2Proof.Tests

open Sys2Proof Sys2Proof.Machine Sys2Proof.Statements

-- One theorem after another: side by side, their threads pass the limit that check.sh sets on memory.
set_option Elab.async false

/-! ## Helpers -/

/-- Sixteen bytes: the given ones, then zeros. -/
def payload (bytes : List Byte) : Payload := Vector.ofFn fun i => bytes.getD i.val 0

/-- The state the vectors start from: reset, with the REF parameters. -/
def fresh : State := { State.reset with par := Config.ref }

/-- The session of the vectors: `SESSION_OPEN 2, 0x83, 0x03, 0xA`. -/
def openState : State := { fresh with ses := ⟨true, 2, 0x83, 0x03, 0xA, false⟩ }

/-- The same session after a transport error. -/
def fatalState : State := { openState with ses := ⟨true, 2, 0x83, 0x03, 0xA, true⟩ }

/-- A state whose transport answers are decided. -/
def answering (s : State) (writes : List WriteAnswer) (reads : List ReadAnswer) : State :=
  { s with writeScript := writes, readScript := reads }

/-- A state with a frame in OBUF. -/
def holding (s : State) (len : OutLen) (frame : List Byte) : State := loadFrame len frame s

/-- A state with a frame in IBUF. -/
def received (bytes : List Byte) : State := storeInbound bytes fresh

/-- A state whose program is one statement. -/
def running (s : State) (stmt : HostStmt) : State := { s with prog := [stmt], pos := 0 }

/-- A state whose 16 lines are written. -/
def complete (s : State) : State := { s with lineValid := 0xFFFF }

/-- A state in a phase of the sequencer. -/
def inPhase (s : State) (phase : SeqPhase) : State := { s with seq.phase := phase, seq.pass := 1 }

/-- The host's next statement is this one. -/
abbrev At (s : State) (stmt : HostStmt) : Prop := s.prog[s.pos]? = some stmt

/-- The next state of an outcome. -/
def nextOf : Outcome → Option State
  | .next t => some t
  | .fault _ => none
  | .refused _ => none

/-- One field or value of the state after an instruction. -/
def see {α : Type} (i : Instr) (s : State) (f : State → α) : Option α := (nextOf (exec i s)).map f

/-- One value of the state after a step. -/
def seeStep {α : Type} (s : State) (f : State → α) : Option α := (nextOf (step s)).map f

/-- What a decoder gave. -/
def ok? (r : Except DecodeError Instr) : Option Instr :=
  match r with
  | .ok i => some i
  | .error _ => none

/-- Why a decoder refused. -/
def err? (r : Except DecodeError Instr) : Option DecodeError :=
  match r with
  | .ok _ => none
  | .error e => some e

/-- `D`, `X`, `Q(e, p)` and `E(e, p)` of 95_test_vectors.md. -/
def frameD : List Byte := [0x11, 0xFF, 0x0A, 0x00] ++ List.replicate 16 0
def frameX : List Byte := [0x11, 0xFF, 0x0A, 0x7A] ++ List.replicate 16 0
def frameQ (e p : Byte) : List Byte := [0x11, 0xFF, 0x0A, 0x4A, e, p] ++ List.replicate 14 0
def frameE (e p : Byte) : List Byte := [0x11, 0xFF, 0x0A, 0x8A, e, p] ++ List.replicate 14 0

/-- The answers of the writes and reads of one pass. -/
def passWrites : List WriteAnswer := List.replicate 17 (.ok 20) ++ [.ok 7]
def passReads (e p : Byte) : List ReadAnswer := (List.replicate 17 frameX ++ [frameE e p, frameX, frameX]).map .ok
def passResponse (e p : Byte) (i : Nat) : List Byte := if i = 17 then frameE e p else frameX

/-- The instruction that builds REFBLK. -/
def buildRef : Instr := .blkBuild 1 400 800 1600 3200 0 1

/-- REFBLK's bytes that are not zero: line 0 (V-B-1) and line 10 (V-B-2). -/
def refBytes : Memory :=
  [(0, 0x01), (1, 0x01), (3, 0x90), (4, 0x01), (5, 0x20), (6, 0x03), (7, 0x40), (8, 0x06), (9, 0x80), (10, 0x0C), (13, 0xFF), (14, 0xFF), (15, 0xFF)]
  ++ [(160, 0x50), (162, 0x72), (164, 0x6F), (166, 0x66), (168, 0x69), (170, 0x6C), (172, 0x65), (174, 0x31)]

/-- An open session with REFBLK in BLK. -/
def refState : State := { openState with blk := refBytes, lineValid := 0xFFFF }

/-! ## Well-formedness (R124, R126, R151, R161, R162): an ill-formed term for each check -/

theorem test_wellFormed_refuses_session_swid :
    ([.sessionOpen 2 0x83 3 0, .sessionOpen 2 0x83 3 16] : List Instr).all (!·.wellFormed) := by decide

theorem test_wellFormed_refuses_encShort :
    ([.encShort 0xFF 0 9 1 0 0 0, .encShort 0xFF 0 0x0D 1 0 0 0, .encShort 0xFF 0 0x10 1 0 0 0,
      .encShort 0xFF 0 4 0 0 0 0, .encShort 0xFF 0 4 16 0 0 0] : List Instr).all (!·.wellFormed) := by decide

theorem test_wellFormed_refuses_encLong :
    ([.encLong 0xFF 0 0x0A 1 (payload []), .encLong 0xFF 0 0x14 1 (payload []), .encLong 0xFF 0 3 0 (payload []),
      .encLong 0xFF 0 3 0x1A (payload [])] : List Instr).all (!·.wellFormed) := by decide

theorem test_wellFormed_refuses_operands :
    ([.xferRecv 2, .blkWrite 16 (payload []), .blkRead 16, .seqRecordPass 1 2 0] : List Instr).all (!·.wellFormed) := by
  decide

theorem test_wellFormed_refuses_blkBuild :
    ([.blkBuild 0 0 0 0 0 0 1, .blkBuild 5 0 0 0 0 0 1, .blkBuild 1 0 0 0 0 0 0, .blkBuild 1 0 0 0 0 0 10]
      : List Instr).all (!·.wellFormed) := by decide

theorem test_wellFormed_refuses_frames_without_swid :
    ((shortFrames 0xFF 0x0A 0 0 0 0).map (·.2) ++ (longFrames 0xFF 0x0A 0 (payload [])).map (·.2)).all
      (!·.wellFormed) := by decide

theorem test_wellFormed_accepts :
    ([.sessionOpen 2 0x83 3 15, .encShort 0xFF 0 0xC 15 0 0 0, .encLong 0xFF 0 0xB 1 (payload []), .xferRecv 1,
      .blkWrite 15 (payload []), .blkRead 15, .blkBuild 4 0 0 0 0 0 9, .seqRecordPass 1 1 0,
      .statusShort 0xFF 0x0A 0xA 0 0 0] : List Instr).all (·.wellFormed) := by decide

/-! ## Decoding: words written out from the tables -/

/-- R150, the session and codec rows. -/
theorem test_decode_session_and_codec_commands :
    ok? (decodeCommand [0x01, 0x02, 0x83, 0x03, 0x0A]) = some (.sessionOpen 0x02 0x83 0x03 0x0A) ∧
    ok? (decodeCommand [0x02]) = some .sessionClose ∧
    ok? (decodeCommand [0x10, 0xFF, 0x0A, 0x04, 0x0B, 1, 2, 3]) = some (.encShort 0xFF 0x0A 0x04 0x0B 1 2 3) ∧
    ok? (decodeCommand [0x11, 0xFF, 0x0E, 3, 0xA, 1, 2, 3, 4, 5, 6, 7, 8, 9, 10, 11, 12, 13, 14, 15, 16]) =
      some (.encLong 0xFF 0x0E 3 0xA (payload [1, 2, 3, 4, 5, 6, 7, 8, 9, 10, 11, 12, 13, 14, 15, 16])) ∧
    ok? (decodeCommand [0x12]) = some .decStatus ∧
    ok? (decodeCommand [0x13]) = some .classify ∧
    ok? (decodeCommand [0x14]) = some .xferSend ∧
    ok? (decodeCommand [0x15, 0x01]) = some (.xferRecv 1) := by decide +kernel

/-- R150, the checksum, block and sequencer rows; the DPI values are carried low byte first (R86). -/
theorem test_decode_block_and_sequencer_commands :
    ok? (decodeCommand [0x20]) = some .crcInit ∧
    ok? (decodeCommand [0x21, 0x31]) = some (.crcUpdate 0x31) ∧
    ok? (decodeCommand [0x22]) = some .crcBlock ∧
    ok? (decodeCommand [0x23]) = some .crcRead ∧
    ok? (decodeCommand [0x30, 5, 1, 2, 3, 4, 5, 6, 7, 8, 9, 10, 11, 12, 13, 14, 15, 16]) =
      some (.blkWrite 5 (payload [1, 2, 3, 4, 5, 6, 7, 8, 9, 10, 11, 12, 13, 14, 15, 16])) ∧
    ok? (decodeCommand [0x31, 0x0F]) = some (.blkRead 15) ∧
    ok? (decodeCommand [0x32, 1, 0x90, 0x01, 0x20, 0x03, 0x40, 0x06, 0x80, 0x0C, 0x01, 0x02, 7]) =
      some (.blkBuild 1 400 800 1600 3200 0x0201 7) ∧
    ok? (decodeCommand [0x40]) = some .seqQueryStatus ∧
    ok? (decodeCommand [0x41, 0x01, 0x00, 0x1D]) = some (.seqRecordPass 1 0 0x1D) ∧
    ok? (decodeCommand [0x42, 0x03]) = some (.seqWriteConfig 3) := by decide +kernel

/-- R121 with the function ids of R124 in bits 7..4 of the op byte and software id 0xA in bits 3..0. -/
theorem test_decode_short_frames :
    ok? (decodeFrame [0x10, 0xFF, 0x0A, 0b00001010, 1, 2, 3]) = some (.rootShort 0xFF 0x0A 0xA 1 2 3) ∧
    ok? (decodeFrame [0x10, 0xFF, 0x0A, 0b00011010, 1, 2, 3]) = some (.getFeatureShort 0xFF 0x0A 0xA 1 2 3) ∧
    ok? (decodeFrame [0x10, 0xFF, 0x0A, 0b00101010, 1, 2, 3]) = some (.connCheckShort 0xFF 0x0A 0xA 1 2 3) ∧
    ok? (decodeFrame [0x10, 0xFF, 0x0A, 0b00111010, 1, 2, 3]) = some (.profileSwitchShort 0xFF 0x0A 0xA 1 2 3) ∧
    ok? (decodeFrame [0x10, 0xFF, 0x0A, 0b01001010, 1, 2, 3]) = some (.statusShort 0xFF 0x0A 0xA 1 2 3) ∧
    ok? (decodeFrame [0x10, 0xFF, 0x0A, 0b01011010, 1, 2, 3]) = some (.readRecordShort 0xFF 0x0A 0xA 1 2 3) ∧
    ok? (decodeFrame [0x10, 0xFF, 0x0A, 0b01101010, 1, 2, 3]) = some (.startRecordShort 0xFF 0x0A 0xA 1 2 3) ∧
    ok? (decodeFrame [0x10, 0xFF, 0x0A, 0b01111010, 1, 2, 3]) = some (.writeRecordShort 0xFF 0x0A 0xA 1 2 3) ∧
    ok? (decodeFrame [0x10, 0xFF, 0x0A, 0b10001010, 1, 2, 3]) = some (.endRecordShort 0xFF 0x0A 0xA 1 2 3) ∧
    ok? (decodeFrame [0x10, 0xFF, 0x0A, 0b10111010, 1, 2, 3]) = some (.errBShort 0xFF 0x0A 0xA 1 2 3) ∧
    ok? (decodeFrame [0x10, 0xFF, 0x0A, 0b11001010, 1, 2, 3]) = some (.errCShort 0xFF 0x0A 0xA 1 2 3) := by
  decide +kernel

/-- The bytes 1 to 16, as a long frame's payload. -/
def ramp : List Byte := [1, 2, 3, 4, 5, 6, 7, 8, 9, 10, 11, 12, 13, 14, 15, 16]

/-- R122 with the function ids of R124; device index, feature index and software id each with a value of its own. -/
theorem test_decode_long_frames :
    ok? (decodeFrame ([0x11, 0x01, 0x02, 0b00000011] ++ ramp)) = some (.rootLong 1 2 3 (payload ramp)) ∧
    ok? (decodeFrame ([0x11, 0x01, 0x02, 0b00010011] ++ ramp)) = some (.getFeatureLong 1 2 3 (payload ramp)) ∧
    ok? (decodeFrame ([0x11, 0x01, 0x02, 0b00100011] ++ ramp)) = some (.connCheckLong 1 2 3 (payload ramp)) ∧
    ok? (decodeFrame ([0x11, 0x01, 0x02, 0b00110011] ++ ramp)) = some (.setColorLong 1 2 3 (payload ramp)) ∧
    ok? (decodeFrame ([0x11, 0x01, 0x02, 0b01000011] ++ ramp)) = some (.statusLong 1 2 3 (payload ramp)) ∧
    ok? (decodeFrame ([0x11, 0x01, 0x02, 0b01010011] ++ ramp)) = some (.readRecordLong 1 2 3 (payload ramp)) ∧
    ok? (decodeFrame ([0x11, 0x01, 0x02, 0b01100011] ++ ramp)) = some (.startRecordLong 1 2 3 (payload ramp)) ∧
    ok? (decodeFrame ([0x11, 0x01, 0x02, 0b01110011] ++ ramp)) = some (.writeRecordLong 1 2 3 (payload ramp)) ∧
    ok? (decodeFrame ([0x11, 0x01, 0x02, 0b10000011] ++ ramp)) = some (.endRecordLong 1 2 3 (payload ramp)) ∧
    ok? (decodeFrame ([0x11, 0x01, 0x02, 0b10110011] ++ ramp)) = some (.errBLong 1 2 3 (payload ramp)) ∧
    ok? (decodeFrame ([0x11, 0x01, 0x02, 0b11000011] ++ ramp)) = some (.errCLong 1 2 3 (payload ramp)) := by
  decide +kernel

/-- R120, R125, R152, R507: what is no instruction is refused by name. -/
theorem test_decode_rejects :
    err? (decodeCommand []) = some .emptyCommand ∧
    err? (decodeCommand [0x99]) = some (.illegalCommand 0x99) ∧
    err? (decodeCommand [0x10, 0xFF, 0x0A, 0x04, 0x0A, 0x00, 0x00]) = some (.badLength 0x10) ∧
    err? (decodeFrame [0x10, 0xFF, 0x0A, 0x9A, 0, 0, 0]) = some (.reservedFunction 9) ∧
    err? (decodeFrame ([0x11, 0xFF, 0x0A, 0xFA] ++ ramp)) = some (.reservedFunction 0xF) ∧
    err? (decodeFrame [0x12, 0xFF, 0x0A, 0x4A, 0, 0, 0]) = some .notAFrame ∧
    err? (decodeFrame [0x11, 0xFF, 0x0A, 0x4A, 0, 0, 0]) = some .notAFrame := by decide +kernel

/-- The match columns of the opcode table: a word with only its fixed bits decodes to its row's instruction. -/
theorem test_table_words :
    decodeTableWord 8 0x02 = some .sessionClose ∧
    decodeTableWord 8 0x42 = some (.seqWriteConfig 0) ∧
    decodeTableWord 32 0x10000000 = some (.rootShort 0 0 0 0 0 0) ∧
    decodeTableWord 32 0x110000C0 = some (.errCLong 0 0 0 (payload [])) := by decide +kernel

/-- The word placed by withFetchWord is the next step's instruction. -/
theorem test_withFetchWord_runs :
    seeStep (fresh.withFetchWord 16 0x3121) (·.crc) = some 0xC782 ∧
    seeStep ((answering openState [.ok 7] []).withFetchWord 32 0x10FF0A0A) (·.olen) = some .short := by decide +kernel

/-! ## Commands (95_test_vectors.md section 2) -/

/-- V-C-1. -/
theorem test_encShort :
    see (.encShort 0xFF 0x0A 4 0xA 0 0 0) fresh (fun t => (frameOut t, t.res)) =
      some ([0x10, 0xFF, 0x0A, 0x4A, 0, 0, 0], okWith []) := by decide +kernel

/-- V-C-6, V-C-8: the order of the checks. -/
theorem test_encShort_refuses :
    see (.encShort 0xFF 0x0A 0xF 0 0 0 0) fresh (·.res) = some (refusal .illegalFunction 0x0F) ∧
    see (.encShort 0xFF 0x0A 0x10 0 0 0 0) fresh (·.res) = some (refusal .badOperand 3) := by decide +kernel

/-- V-C-4. -/
theorem test_encLong :
    see (.encLong 0xFF 0x0E 3 0xA (payload [1, 0x12, 0x34, 0x56])) fresh frameOut =
      some ([0x11, 0xFF, 0x0E, 0x3A, 0x01, 0x12, 0x34, 0x56] ++ List.replicate 12 0) := by decide +kernel

/-- V-C-10, V-C-11. -/
theorem test_bad_commands :
    seeStep (running fresh (.command [0x10, 0xFF, 0x0A, 0x04, 0x0A, 0x00, 0x00])) (·.res) =
      some (refusal .badOperand 0xFF) ∧
    seeStep (running fresh (.command [0x99])) (·.res) = some (refusal .illegalCommand 0x99) := by decide +kernel

/-- V-C-14, V-C-19. -/
theorem test_decStatus :
    see .decStatus (received (frameQ 0xFF 0xFF)) (·.res.data) = some [1, 0xFF, 0xFF] ∧
    see .decStatus (received ((frameQ 5 2).take 19)) (·.res.data) = some [0, 0, 0] := by decide +kernel

/-- V-C-16 to V-C-20. -/
theorem test_classify :
    [received [], received [0x11, 0xFF, 0x0A], received [0x11, 0xFF, 0x0A, 0], received [0x10, 0xFF, 0x0A, 0x4A, 1, 2, 0]].map
      (fun s => see .classify s (·.res.data)) = [some [0], some [1], some [2], some [3]] := by decide +kernel

/-- V-T-1. -/
theorem test_xferSend :
    see .xferSend (answering (holding openState .short [0x10, 0xFF, 0x0A, 0x4A, 0, 0, 0]) [.ok 7] []) (·.history) =
      some [.out ⟨0x21, 9, 0x0210, 2, [0x10, 0xFF, 0x0A, 0x4A, 0, 0, 0], 1000⟩] := by decide +kernel

/-- V-T-3, V-T-7. -/
theorem test_xferSend_fails :
    see .xferSend (answering (holding openState .short [0x10, 0xFF, 0x0A, 0x4A, 0, 0, 0]) [.ok 5] [])
      (fun t => (t.res, t.ses.fatal, t.history.length)) = some (⟨.transportError, ⟨0, 0, 0, 1⟩, []⟩, true, 1) ∧
    see .xferSend (holding fatalState .short [0x10]) (fun t => (t.res, t.history)) =
      some (refusal .transportError 0, []) := by decide +kernel

/-- V-T-4, V-T-5. -/
theorem test_xferRecv :
    see (.xferRecv 0) (answering openState [] [.ok []]) (fun t => (t.res, t.ilen.val)) = some (okWith [0], 0) ∧
    see (.xferRecv 0) (answering openState [] [.ok (frameQ 0 2)]) (fun t => (t.res, t.ibuf[5])) =
      some (okWith [0x14], 2) := by decide +kernel

/-- The single steps of section 2.3. -/
theorem test_crcUpdate :
    see (.crcUpdate 0x31) { fresh with crc := 0xFFFF } (·.crc) = some 0xC782 ∧
    see (.crcUpdate 0x00) { fresh with crc := 0x8000 } (·.crc) = some 0x9188 := by decide +kernel

/-- R300, R303. -/
theorem test_crcInit_and_read :
    see .crcInit { fresh with crc := 0x1234 } (·.crc) = some 0xFFFF ∧
    see .crcRead { fresh with crc := 0x1234 } (·.res.data) = some [0x12, 0x34] := by decide +kernel

set_option maxRecDepth 20000 in
/-- V-K-15, V-K-22. -/
theorem test_crcBlock :
    see .crcBlock refState (fun t => (t.res.data, t.blk.read 254, t.blk.read 255, t.crc)) =
      some ([0xE5, 0x05], 0xE5, 0x05, 0xE505) ∧
    see .crcBlock { fresh with lineValid := 0b101 } (·.res) = some (refusal .blockIncomplete 1) := by decide +kernel

/-- V-B-8, and the bytes and mark of a written line (R340). -/
theorem test_blkWrite :
    see (.blkWrite 1 (payload [0, 0, 0x1D])) refState (fun t => (t.blk.read 18, t.lineValid, t.blk.read 15)) =
      some (0x1D, 0xFFFF, 0xFF) ∧
    see (.blkWrite 16 (payload [])) fresh (·.res) = some (refusal .badOperand 1) := by decide +kernel

/-- V-B-2, V-B-9. -/
theorem test_blkRead :
    see (.blkRead 10) refState (·.res.data) =
      some [0x50, 0, 0x72, 0, 0x6F, 0, 0x66, 0, 0x69, 0, 0x6C, 0, 0x65, 0, 0x31, 0] ∧
    see (.blkRead 3) fresh (·.res) = some (refusal .blockIncomplete 3) := by decide +kernel

/-- V-B-1 to V-B-3, V-B-6, V-B-7. -/
theorem test_blkBuild :
    see buildRef fresh (fun t => (t.blk, t.lineValid)) = some (refBytes, 0xFFFF) ∧
    see (.blkBuild 5 0 0 0 0 0 1) fresh (·.res) = some (refusal .badOperand 1) ∧
    see (.blkBuild 1 0 0 0 0 0 10) fresh (·.res) = some (refusal .badOperand 12) := by decide +kernel

/-- R420, R421. -/
theorem test_session :
    see (.sessionOpen 2 0x83 0x03 0xA) fresh (·.ses) = some ⟨true, 2, 0x83, 0x03, 0xA, false⟩ ∧
    see (.sessionOpen 2 0x83 0x03 0) fresh (·.res) = some (refusal .illegalSwid 0) ∧
    see .sessionClose fatalState (fun t => (t.ses.isOpen, t.ses.fatal, t.res)) = some (false, false, okWith []) := by
  decide +kernel

/-- V-S-1. -/
theorem test_query :
    see .seqQueryStatus (answering openState [.ok 7] [.ok frameD, .ok (frameQ 0 2)])
      (fun t => (t.res, t.history.length, t.seq.phase)) = some (okWith [1, 0, 2], 3, .idle) := by decide +kernel

/-- V-S-5, V-S-8. -/
theorem test_query_fails :
    see .seqQueryStatus (answering openState [.ok 7] [.ok [0x11, 0xFF, 0x0A, 0x4A, 0, 2, 0]]) (·.res) =
      some ⟨.protocolMismatch, ⟨2, 0, 0, 3⟩, []⟩ ∧
    see .seqQueryStatus (answering openState [.ok 7] [.fail]) (·.res) = some ⟨.transportError, ⟨2, 0, 0, 2⟩, []⟩ := by
  decide +kernel

set_option maxRecDepth 20000 in
/-- V-S-9: the result, the trailer, and the frames of line 1 and of the End. -/
theorem test_recordPass :
    see (.seqRecordPass 1 1 0x1D) (answering refState passWrites (passReads 0 1))
      (fun t => (t.res, t.crc, (framesSent t.history).getD 2 [], (framesSent t.history).getD 17 [],
        readsMade t.history)) =
      some (okWith [1, 0, 1, 0, 0, 0], 0xC58C, [0x11, 0xFF, 0x0A, 0x7A, 0, 0, 0x1D] ++ List.replicate 13 0,
        [0x10, 0xFF, 0x0A, 0x8A, 0, 0, 0], 20) := by decide +kernel

set_option maxRecDepth 20000 in
/-- V-S-12, the first row. -/
theorem test_recordPass_fails :
    see (.seqRecordPass 1 1 0x1D) (answering refState passWrites (List.replicate 6 (.ok frameX) ++ [.fail]))
      (fun t => (t.res, t.ses.fatal, t.blk.read 18, t.history.length)) =
      some (⟨.transportError, ⟨7, 1, 5, 2⟩, []⟩, true, 0x1D, 14) := by decide +kernel

set_option maxRecDepth 20000 in
/-- V-S-13. -/
theorem test_writeConfig :
    see (.seqWriteConfig 1) (answering refState (passWrites ++ passWrites) (passReads 5 1 ++ passReads 0 1))
      (fun t => (t.res, (framesSent t.history).length, t.blk.read 18)) = some (okWith [1, 5, 1, 1, 0, 1], 36, 0x1D) := by decide +kernel

/-! ## Wire frames (41_wire_functions.md) -/

/-- R250, R251, R252, R256, R260, R261: built and sent. -/
theorem test_short_frames_sent :
    ([(0x0, .rootShort 0xFF 0 1 2 3 4), (0x1, .getFeatureShort 0xFF 0 1 2 3 4), (0x2, .connCheckShort 0xFF 0 1 2 3 4),
      (0x5, .readRecordShort 0xFF 0 1 2 3 4), (0x6, .startRecordShort 0xFF 0 1 2 3 4),
      (0x7, .writeRecordShort 0xFF 0 1 2 3 4), (0xB, .errBShort 0xFF 0 1 2 3 4), (0xC, .errCShort 0xFF 0 1 2 3 4)]
      : List (Byte × Instr)).all (fun p =>
        decide (see p.2 (answering openState [.ok 7] []) (fun t => (framesSent t.history, t.res)) =
          some ([[0x10, 0xFF, 0, p.1 * 16 + 1, 2, 3, 4]], okWith []))) = true := by decide +kernel

theorem test_long_frames_sent :
    ([(0x0, .rootLong 0xFF 0 1 (payload ramp)), (0x1, .getFeatureLong 0xFF 0 1 (payload ramp)),
      (0x2, .connCheckLong 0xFF 0 1 (payload ramp)), (0x4, .statusLong 0xFF 0 1 (payload ramp)),
      (0x5, .readRecordLong 0xFF 0 1 (payload ramp)), (0x8, .endRecordLong 0xFF 0 1 (payload ramp)),
      (0xB, .errBLong 0xFF 0 1 (payload ramp)), (0xC, .errCLong 0xFF 0 1 (payload ramp))]
      : List (Byte × Instr)).all (fun p =>
        decide (see p.2 (answering openState [.ok 20] []) (fun t => (framesSent t.history, t.res)) =
          some ([[0x11, 0xFF, 0, p.1 * 16 + 1] ++ ramp], okWith []))) = true := by decide +kernel

/-- R253: three reads; an empty one stops them (R441). -/
theorem test_profileSwitch :
    see (.profileSwitchShort 0xFF 0x0A 0xA 2 0 0) (answering openState [.ok 7] [.ok frameX, .ok frameX, .ok [1, 2, 3]])
      (fun t => (t.res, readsMade t.history)) = some (okWith [3], 3) ∧
    see (.profileSwitchShort 0xFF 0x0A 0xA 2 0 0) (answering openState [.ok 7] [.ok frameX, .ok []])
      (fun t => (t.res, readsMade t.history)) = some (okWith [0], 2) := by decide +kernel

/-- R253: a failed read is TRANSPORT_ERROR aux 2, a failed send aux 1 (R501). -/
theorem test_profileSwitch_fails :
    see (.profileSwitchShort 0xFF 0x0A 0xA 2 0 0) (answering openState [.ok 7] [.ok frameX, .fail])
      (fun t => (t.res, t.ses.fatal, readsMade t.history)) = some (⟨.transportError, ⟨0, 0, 0, 2⟩, []⟩, true, 2) ∧
    see (.profileSwitchShort 0xFF 0x0A 0xA 2 0 0) (answering openState [.fail] [.ok frameX])
      (fun t => (t.res, t.ses.fatal, readsMade t.history)) = some (⟨.transportError, ⟨0, 0, 0, 1⟩, []⟩, true, 0) := by
  decide +kernel

/-- R254 with P_LED_RESPONSES = 1. -/
theorem test_setColor :
    see (.setColorLong 0xFF 0x0E 0xA (payload [1, 0x12, 0x34, 0x56])) (answering openState [.ok 20] [.ok frameX])
      (fun t => (t.res, t.history.length)) = some (okWith [20], 2) := by decide +kernel

/-- R255: the status query with this frame. -/
theorem test_status :
    see (.statusShort 0xFF 0x0A 0xA 0 0 0) (answering openState [.ok 7] [.ok frameD, .ok (frameQ 5 1)])
      (fun t => (t.res, t.history.length, t.st)) =
      some (⟨.deviceRejected, ⟨0, 0, 0, 0⟩, [1, 5, 1]⟩, 3, ⟨true, 5, 1⟩) := by decide +kernel

/-- R257, R258: one response that must not be empty. -/
theorem test_start_and_write :
    see (.startRecordLong 0xFF 0x0A 0xA (payload [1])) (answering openState [.ok 20] [.ok frameX])
      (fun t => (t.res, readsMade t.history)) = some (okWith [20], 1) ∧
    see (.writeRecordLong 0xFF 0x0A 0xA (payload [1])) (answering openState [.ok 20] [.ok []])
      (fun t => (t.res, t.ses.fatal)) = some (⟨.transportError, ⟨0, 0, 0, 3⟩, []⟩, true) := by decide +kernel

/-- R259: three responses, the first a status. -/
theorem test_end :
    see (.endRecordShort 0xFF 0x0A 0xA 0 0 0) (answering openState [.ok 7] [.ok (frameE 3 1), .ok frameX, .ok frameX])
      (fun t => (t.res, readsMade t.history, t.seq.endSt2)) =
      some (⟨.deviceRejected, ⟨0, 0, 0, 0⟩, [1, 3, 1]⟩, 3, ⟨true, 3, 1⟩) := by decide +kernel

/-! ## Host programs -/

/-- R154: HOST_IF reads the results and moves the host. -/
theorem test_host_if :
    seeStep (running { fresh with res := ⟨.ok, ⟨0, 0, 0, 0⟩, [2]⟩ } (.branch (.dataIs 0 2) 9)) (·.pos) = some 9 ∧
    seeStep (running fresh (.branch codeNotOk 9)) (·.pos) = some 1 := by decide +kernel

/-- R154, R446: CLEAR_QUEUE's labels as positions. -/
theorem test_assemble_clearQueue :
    assemble clearQueueProgram =
      [.command [0x15, 0x01], .branch (.not (.codeIn [0])) 4, .branch (.not (.dataIs 0 0)) 0, .stop, .stop] := by
  decide +kernel

/-- The REF payloads of R444, and its frame for Off (R254's example). -/
theorem test_ledPayload :
    refLedPayload .off = payload [] ∧
    refLedPayload (.static 0x12 0x34 0x56) = payload [1, 0x12, 0x34, 0x56] ∧
    refLedPayload (.cycle 0x1234 0x50) = payload [2, 0x12, 0x34, 0x50] ∧
    (setLedProgram Config.ref 0 [] refLedFields 0xA .off).head? =
      some (.cmd (.encLong 0xFF 0x0E 3 0xA (payload []))) := by decide +kernel

/-- mode_id at another offset, Off's fields at two offsets, and other bytes (R9: all but mode_id is open). -/
theorem test_ledPayload_open :
    ledPayload 15 [0, 2] (fun _ => payload ramp) (.static 1 2 3) = payload (ramp.take 15 ++ [1]) ∧
    ledPayload 15 [0, 2] (fun _ => payload ramp) .off = payload [0, 2, 0, 4, 5, 6, 7, 8, 9, 10, 11, 12, 13, 14, 15, 0] := by
  decide +kernel

/-- R447: the block is named by the profile, or by the expected one when it is 0. -/
theorem test_writeConfigProgram :
    (writeConfigProgram 1 400 800 1600 3200 0 7 3).filter (fun x => x matches .cmd _) =
      [.cmd (.blkBuild 1 400 800 1600 3200 0 3), .cmd (.seqWriteConfig 3)] ∧
    (writeConfigProgram 1 400 800 1600 3200 0 7 0).filter (fun x => x matches .cmd _) =
      [.cmd (.blkBuild 1 400 800 1600 3200 0 7), .cmd (.seqWriteConfig 0)] := by decide +kernel

/-- R440: after a refused BLK_BUILD (poll 5) the branch takes the program to `fail`, past SEQ_WRITE_CONFIG. -/
theorem test_writeConfigProgram_fails :
    (assemble (writeConfigProgram 5 0 0 0 0 0 1 1))[1]? = some (.branch codeNotOk 5) ∧
    (assemble (writeConfigProgram 5 0 0 0 0 0 1 1))[5]? = some .stop ∧
    seeStep { openState with res := refusal .badOperand 1, prog := assemble (writeConfigProgram 5 0 0 0 0 0 1 1), pos := 1 }
      (fun t => (t.pos, t.res, t.history)) = some (5, refusal .badOperand 1, []) := by decide +kernel

/-- R154's text of commands, labels and jumps. -/
theorem test_asmText :
    (itemChars (.cmd (.seqRecordPass 1 1 0x1D))).drop 15 =
      [' ', '0', 'x', '0', '1', ',', ' ', '0', 'x', '0', '1', ',', ' ', '0', 'x', '1', 'D'] ∧
    itemChars (.label "a") = ['a', ':'] := by decide +kernel

/-! ## Witnesses: every statement's hypotheses are met by a concrete state and operands -/

/-- What an `exists` over next states needs. -/
theorem next_of_isSome {o : Outcome} (h : (nextOf o).isSome = true) : ∃ t, o = .next t := by
  cases o with
  | next t => exact ⟨t, rfl⟩
  | fault f => simp [nextOf] at h
  | refused r => simp [nextOf] at h

/-- A next state with a property. -/
theorem next_of_see {o : Outcome} {p : State → Bool} (h : (nextOf o).map p = some true) : ∃ t, o = .next t ∧ p t = true := by
  cases o with
  | next t => exact ⟨t, rfl, by simpa [nextOf] using h⟩
  | fault f => simp [nextOf] at h
  | refused r => simp [nextOf] at h

theorem ok_of {r : Except DecodeError Instr} {i : Instr} (h : ok? r = some i) : r = .ok i := by
  cases r with
  | ok j => simpa [ok?] using h
  | error e => simp [ok?] at h

/-- DecodeThenEncode, one instruction in each space. -/
theorem test_witness_O2 :
    decode .hostCommand [0x31, 0x0F] = .ok (.blkRead 15) ∧
    decode .wireFrame [0x10, 0xFF, 0x0A, 0x4A, 0, 0, 0] = .ok (.statusShort 0xFF 0x0A 0xA 0 0 0) :=
  ⟨ok_of (by decide +kernel), ok_of (by decide +kernel)⟩

/-- LengthToldByCode. -/
theorem test_witness_O4 :
    decodeCommand (0x21 :: [0x31]) = .ok (.crcUpdate 0x31) ∧ decodeCommand (0x21 :: [0x00]) = .ok (.crcUpdate 0) ∧
    decodeFrame [0x10, 0xFF, 0x0A, 0x4A, 0, 0, 0] = .ok (.statusShort 0xFF 0x0A 0xA 0 0 0) ∧
    decodeFrame ([0x11, 1, 2, 0x43] ++ ramp) = .ok (.statusLong 1 2 3 (payload ramp)) :=
  ⟨ok_of (by decide +kernel), ok_of (by decide +kernel), ok_of (by decide +kernel), ok_of (by decide +kernel)⟩

/-- StepRunsDecoded, in each space. -/
theorem test_witness_O6 :
    (At (running openState (.command [0x40])) (stmtOf .hostCommand [0x40]) ∧
      decode .hostCommand [0x40] = .ok .seqQueryStatus) ∧
    (At (running openState (.frame [0x10, 0xFF, 0x0A, 0x4A, 0, 0, 0])) (stmtOf .wireFrame [0x10, 0xFF, 0x0A, 0x4A, 0, 0, 0]) ∧
      decode .wireFrame [0x10, 0xFF, 0x0A, 0x4A, 0, 0, 0] = .ok (.statusShort 0xFF 0x0A 0xA 0 0 0)) :=
  ⟨⟨by decide, ok_of (by decide +kernel)⟩, by decide, ok_of (by decide +kernel)⟩

/-- HostControlFlow, each kind of statement. -/
theorem test_witness_O7 :
    At (running fresh (.goto 0)) (.goto 0) ∧
    (At (running fresh (.branch (.codeIn [0]) 7)) (.branch (.codeIn [0]) 7) ∧
      condHolds (running fresh (.branch (.codeIn [0]) 7)) (.codeIn [0]) = true) ∧
    (At (running fresh (.branch (.dataIs 0 0) 7)) (.branch (.dataIs 0 0) 7) ∧
      condHolds (running fresh (.branch (.dataIs 0 0) 7)) (.dataIs 0 0) = false) ∧
    At (running fresh .stop) .stop ∧ fresh.prog[fresh.pos]? = none := by decide +kernel

/-- UnknownCommandCodes: codes beside the 18, and no code. -/
theorem test_witness_O8 :
    SequencerIdle fresh ∧
    (∀ code ∈ ([0x00, 0x03, 0x16, 0x43, 0xFF] : List Byte),
      At (running fresh (.command (code :: [1]))) (.command (code :: [1])) ∧
      code.toNat ∉ [0x01, 0x02, 0x10, 0x11, 0x12, 0x13, 0x14, 0x15, 0x20, 0x21, 0x22, 0x23, 0x30, 0x31, 0x32,
        0x40, 0x41, 0x42]) ∧
    At (running fresh (.command [])) (.command []) := by decide +kernel

/-- WrongCommandLengths: one byte short, one byte long. -/
theorem test_witness_O9 :
    (SequencerIdle (running fresh (.command [0x10, 1, 2, 3, 4, 5, 6])) ∧
      At (running fresh (.command [0x10, 1, 2, 3, 4, 5, 6])) (.command (0x10 :: [1, 2, 3, 4, 5, 6]))) ∧
    (((0x10 : Byte).toNat, 8) ∈ [((0x01 : Nat), (5 : Nat)), (0x02, 1), (0x10, 8), (0x11, 21), (0x12, 1), (0x13, 1),
      (0x14, 1), (0x15, 2), (0x20, 1), (0x21, 2), (0x22, 1), (0x23, 1), (0x30, 18), (0x31, 2), (0x32, 13), (0x40, 1),
      (0x41, 4), (0x42, 2)]) ∧
    ([1, 2, 3, 4, 5, 6] : List Byte).length + 1 ≠ 8 ∧ ([1, 2, 3, 4, 5, 6, 7, 8] : List Byte).length + 1 ≠ 8 := by
  decide +kernel

/-- FramesThatAreNone: the reserved function ids at the ends of the range, and bytes of no frame. -/
theorem test_witness_O10 :
    SequencerIdle fresh ∧ (0x9A : Byte) >>> 4 = 0x9 ∧ (0xFF : Byte) >>> 4 = 0xF ∧
    At (running fresh (.frame [0x10, 1, 2, 0x9A, 0, 0, 0])) (.frame [0x10, 1, 2, 0x9A, 0, 0, 0]) ∧
    At (running fresh (.frame (0x11 :: 1 :: 2 :: 0xFF :: (payload ramp).toList)))
      (.frame (0x11 :: 1 :: 2 :: 0xFF :: (payload ramp).toList)) ∧
    (∀ bytes ∈ ([[], [0x10, 1, 2, 0x4A, 0, 0], [0x10, 1, 2, 0x4A, 0, 0, 0, 0], [0x11, 1, 2, 0x4A, 0, 0, 0]]
        : List (List Byte)),
      ¬ (bytes.head? = some 0x10 ∧ bytes.length = 7) ∧ ¬ (bytes.head? = some 0x11 ∧ bytes.length = 20)) := by
  decide +kernel

/-- The vectors' open session with REFBLK in BLK meets the invariant. -/
theorem test_refState_inv : Inv refState := by
  refine ⟨by decide, by decide, by decide, by decide, by decide, by decide, by decide, by decide, ?_, ?_⟩ <;>
    decide +kernel

/-- StepKeepsInvariant: the open session with REFBLK, and a step that answers a next state. -/
theorem test_witness_O13 :
    Inv (running refState (.command [0x21, 0x31])) ∧ ∃ t, step (running refState (.command [0x21, 0x31])) = .next t :=
  ⟨⟨test_refState_inv.1, test_refState_inv.2, test_refState_inv.3, test_refState_inv.4, test_refState_inv.5,
    test_refState_inv.6, test_refState_inv.7, test_refState_inv.8, test_refState_inv.9, test_refState_inv.10⟩,
    next_of_isSome (by decide +kernel)⟩

/-- MemoryIsCanonical. -/
theorem test_witness_O14 :
    Memory.wf [(0, 1), (255, 2)] ∧ (∀ a, a < 256 → Memory.read [(0, 1), (255, 2)] a = Memory.read [(0, 1), (255, 2)] a) :=
  ⟨by decide, fun _ _ => rfl⟩

/-- SessionOpens: closed with 1 and 15, open, closed with 16 and with 0. -/
theorem test_witness_O15 :
    SequencerIdle fresh ∧ SequencerIdle openState ∧ fresh.ses.isOpen = false ∧ openState.ses.isOpen = true ∧
    (1 ≤ (1 : Byte).toNat ∧ (1 : Byte).toNat ≤ 15) ∧ (1 ≤ (15 : Byte).toNat ∧ (15 : Byte).toNat ≤ 15) ∧
    15 < (16 : Byte).toNat := by decide

/-- TransportAdmission: a closed session and a failed one, both idle. -/
theorem test_witness_O17 :
    (SequencerIdle fresh ∧ fresh.ses.isOpen = false) ∧
    (SequencerIdle fatalState ∧ fatalState.ses.isOpen = true ∧ fatalState.ses.fatal = true) ∧
    Instr.xferSend ∈ [Instr.xferSend, .xferRecv 0, .seqQueryStatus, .seqRecordPass 1 1 1, .seqWriteConfig 1] := by
  decide +kernel

/-- ResetValues and TransportErrorSticks: a reset of a failed session with a pass in progress leaves R58's values. -/
theorem test_powerOn :
    HasResetValues (powerOn { inPhase refState .lRx with ses := ⟨true, 2, 0x83, 0x03, 0xA, true⟩ }) := by
  unfold HasResetValues; decide +kernel

/-- TransportErrorSticks: a command that ends with TRANSPORT_ERROR, one in a failed session, and SESSION_CLOSE. -/
theorem test_witness_O18 :
    (∃ t, exec (.xferRecv 0) (answering openState [] [.fail]) = .next t ∧ (t.res.code == .transportError) = true) ∧
    (SessionSane fatalState ∧ fatalState.ses.fatal = true ∧ ∃ t, exec .crcInit fatalState = .next t) ∧
    (∃ t, exec .sessionClose fatalState = .next t) :=
  ⟨next_of_see (p := fun t => t.res.code == .transportError) (by decide +kernel),
    ⟨by decide, by decide, next_of_isSome (by decide +kernel)⟩, next_of_isSome (by decide +kernel)⟩

/-- EncShortBuilds and EncLongBuilds: the ends of the legal range, and each refusal. -/
theorem test_witness_O19_O20 :
    encoderRefusal 0 1 = none ∧ encoderRefusal 0xC 15 = none ∧ encoderRefusal 0x10 0 = some (.badOperand, 3) ∧
    encoderRefusal 4 0x10 = some (.badOperand, 4) ∧ encoderRefusal 9 0 = some (.illegalFunction, 9) ∧
    encoderRefusal 0xF 1 = some (.illegalFunction, 0xF) ∧ encoderRefusal 4 0 = some (.illegalSwid, 0) ∧
    SequencerIdle fresh := by decide +kernel

/-- CodecLaws: two encodings of one frame, of each format, and a 20-byte response. -/
theorem test_witness_O21 :
    encoderRefusal 4 0xA = none ∧ (∃ t, exec (.encShort 1 2 4 0xA 5 6 7) fresh = .next t) ∧
    (∃ t, exec (.encShort 1 2 4 0xA 5 6 7) openState = .next t) ∧
    see (.encShort 1 2 4 0xA 5 6 7) fresh (·.obuf.toList.take 7) =
      see (.encShort 1 2 4 0xA 5 6 7) openState (·.obuf.toList.take 7) ∧
    (∃ t, exec (.encLong 1 2 4 0xA (payload ramp)) fresh = .next t) ∧
    see (.encLong 1 2 4 0xA (payload ramp)) fresh (·.obuf) = see (.encLong 1 2 4 0xA (payload ramp)) openState (·.obuf) ∧
    ((received (frameQ 5 2)).ilen = 20 ∧ (received (frameQ 5 2)).ibuf[4] = 5 ∧ (received (frameQ 5 2)).ibuf[5] = 2) :=
  ⟨by decide +kernel, next_of_isSome (by decide +kernel), next_of_isSome (by decide +kernel), by decide +kernel,
    next_of_isSome (by decide +kernel), by decide +kernel, by decide +kernel⟩

/-- DecStatusDecodes: 20 bytes and 19. -/
theorem test_witness_O22 : (received frameX).ilen = 20 ∧ (received (frameX.take 19)).ilen ≠ 20 := by decide +kernel

/-- ClassifyClasses: 0, 1, 3 and 4 bytes, byte 3 zero and not. -/
theorem test_witness_O23 :
    (received []).ilen.val = 0 ∧ 1 ≤ (received [1]).ilen.val ∧ (received [1, 2, 3]).ilen.val ≤ 3 ∧
    (4 ≤ (received [1, 2, 3, 0]).ilen.val ∧ (received [1, 2, 3, 0]).ibuf[3] = 0) ∧
    (4 ≤ (received [1, 2, 3, 4]).ilen.val ∧ (received [1, 2, 3, 4]).ibuf[3] ≠ 0) := by decide +kernel

/-- XferSendSends: the two session refusals, an empty OBUF, and a frame of each format. -/
theorem test_witness_O24 :
    (SequencerIdle fresh ∧ sessionRefusal fresh = some (.notOpen, 0)) ∧
    (SequencerIdle fatalState ∧ sessionRefusal fatalState = some (.transportError, 0)) ∧
    (Ready openState ∧ SequencerIdle openState ∧ openState.olen = .empty) ∧
    (Ready (holding openState .short [0x10]) ∧ (holding openState .short [0x10]).olen ≠ .empty) ∧
    (Ready (holding openState .long [0x11]) ∧ (holding openState .long [0x11]).olen ≠ .empty) := by decide +kernel

/-- Sessions whose next read answers with a frame, with no byte, and not at all. -/
def readsFrame : State := answering openState [] [.ok frameX]
def readsEmpty : State := answering openState [] [.ok []]
def readsFail : State := answering openState [] [.fail]

/-- XferRecvReads: a bad selector, an answer for each selector, and a failed read. -/
theorem test_witness_O25 :
    (Ready openState ∧ SequencerIdle openState ∧ 1 < (2 : Byte).toNat) ∧
    (Ready readsFrame ∧ (0 : Byte).toNat ≤ 1 ∧
      (portOf readsFrame).answerRead (inCall readsFrame readsFrame.par.timeout) = .ok frameX) ∧
    (Ready readsEmpty ∧ (1 : Byte).toNat ≤ 1 ∧
      (portOf readsEmpty).answerRead (inCall readsEmpty readsEmpty.par.clearTimeout) = .ok []) ∧
    (Ready readsFail ∧ (portOf readsFail).answerRead (inCall readsFail readsFail.par.timeout) = .fail) := by
  decide +kernel

/-- CrcBlockSeals and IncompleteBlocksAreRefused: all lines written, and the lowest unwritten line first and last. -/
theorem test_witness_O28 :
    refState.lineValid = 0xFFFF ∧ LowestUnwritten fresh 0 ∧ LowestUnwritten { fresh with lineValid := 0x7FFF } 15 ∧
    SequencerIdle { fresh with lineValid := 0x7FFF } := by unfold LowestUnwritten; decide +kernel

/-- CrcBlockTwice. -/
theorem test_witness_O29 : refState.blk.wf ∧ refState.lineValid = 0xFFFF := by decide +kernel

/-- OneByteChangesTrailer: the first byte and the last one the checksum covers. -/
theorem test_witness_O30 :
    ∀ a ∈ [0, 253], (complete fresh).lineValid = 0xFFFF ∧ a < 254 ∧
      (complete fresh).blk.read a ≠ ({ complete fresh with blk := [(a, 1)] } : State).blk.read a ∧
      (∀ o, o < 254 → o ≠ a →
        (complete fresh).blk.read o = ({ complete fresh with blk := [(a, 1)] } : State).blk.read o) := by
  decide +kernel

/-- BlkWriteWrites and BlkReadReads: lines 15 and 16, a written and an unwritten line. -/
theorem test_witness_O31_O32 :
    (15 : Byte).toNat ≤ 15 ∧ 15 < (16 : Byte).toNat ∧ SequencerIdle fresh ∧
    refState.lineValid.getLsbD (15 : Byte).toNat = true ∧ fresh.lineValid.getLsbD (0 : Byte).toNat = false := by decide

/-- BlkWriteThenRead. -/
theorem test_witness_O33 :
    (0 : Byte).toNat ≤ 15 ∧ (15 : Byte).toNat ≤ 15 ∧ (15 : Byte) ≠ 0 ∧
    refState.lineValid.getLsbD (15 : Byte).toNat = true := by decide

/-- BlkBuildBuilds: the ends of both ranges, and values outside them. -/
theorem test_witness_O34 :
    (1 ≤ (1 : Byte).toNat ∧ (4 : Byte).toNat ≤ 4) ∧ (1 ≤ (1 : Byte).toNat ∧ (9 : Byte).toNat ≤ 9) ∧
    ((0 : Byte).toNat < 1 ∧ 4 < (5 : Byte).toNat ∧ 9 < (10 : Byte).toNat) ∧ SequencerIdle fresh := by decide

/-- IncompleteBlocksAreRefused: an open session with line 3 unwritten. -/
theorem test_witness_O35 :
    SequencerIdle { openState with lineValid := 0b10111 } ∧ Ready { openState with lineValid := 0b10111 } ∧
    LowestUnwritten { openState with lineValid := 0b10111 } 3 ∧ (1 : Byte).toNat ≤ 1 ∧
    ({ openState with lineValid := 0b10111 } : State).lineValid.getLsbD (3 : Byte).toNat = false := by
  unfold LowestUnwritten; decide +kernel

/-- A state in a phase, with its next answers. -/
def stepping (phase : SeqPhase) (writes : List WriteAnswer) (reads : List ReadAnswer) : State :=
  answering (inPhase refState phase) writes reads

/-- StepsRaisePrecisely: a short write, a failed read and an empty read, in their phases. -/
theorem test_witness_O37 :
    (∀ phase ∈ [SeqPhase.qTx, .bTx, .lTx, .eTx],
      (stepping phase [.ok 5] []).seq.phase = phase ∧
      (portOf (stepping phase [.ok 5] [])).answerWrite
        (outCall (stepping phase [.ok 5] []) (stepFrame (stepping phase [.ok 5] []))) ≠
          .ok (stepFrame (stepping phase [.ok 5] [])).length) ∧
    (∀ phase ∈ [SeqPhase.qRx, .bRx, .lRx, .eRx],
      (stepping phase [] [.fail]).seq.phase = phase ∧
      (portOf (stepping phase [] [.fail])).answerRead
        (inCall (stepping phase [] [.fail]) (stepping phase [] [.fail]).par.timeout) = .fail) ∧
    (∀ phase ∈ [SeqPhase.bRx, .lRx, .eRx],
      (stepping phase [] [.ok []]).seq.phase = phase ∧
      (portOf (stepping phase [] [.ok []])).answerRead
        (inCall (stepping phase [] [.ok []]) (stepping phase [] [.ok []]).par.timeout) = .ok []) := by
  decide +kernel

/-- QueryMismatches: 0, 1, 3, 4 and 19 bytes, discards at the bound, and a query that ends so. -/
theorem test_witness_O38 :
    (∀ bytes ∈ ([[], [1], [1, 2, 3], [1, 2, 3, 0], [1, 2, 3, 4], (frameQ 0 1).take 19] : List (List Byte)),
      (stepping .qRx [] [.ok bytes]).seq.phase = .qRx ∧
      (portOf (stepping .qRx [] [.ok bytes])).answerRead
        (inCall (stepping .qRx [] [.ok bytes]) (stepping .qRx [] [.ok bytes]).par.timeout) = .ok bytes) ∧
    ([1, 2, 3, 0] : List Byte).getD 3 0 = 0 ∧ ([1, 2, 3, 4] : List Byte).getD 3 0 ≠ 0 ∧
    Config.ref.maxDiscard ≤ ({ stepping .qRx [] [.ok [1, 2, 3, 0]] with seq.disc := 8 } : State).seq.disc ∧
    ∃ t, exec .seqQueryStatus (answering openState [.ok 7] [.ok []]) = .next t ∧
      (t.res.code == .protocolMismatch) = true :=
  ⟨by decide +kernel, by decide +kernel, by decide +kernel, by decide +kernel,
    next_of_see (p := fun t => t.res.code == .protocolMismatch) (by decide +kernel)⟩

/-- A query of `n` discards and a candidate. -/
def queryOf (n : Nat) (e p : Byte) : Query := ⟨List.replicate n frameD, frameQ e p⟩

theorem test_query_good_none : (queryOf 0 0 0).Good Config.ref := by unfold Query.Good; decide +kernel

theorem test_query_good_all : (queryOf 8 5 2).Good Config.ref := by unfold Query.Good; decide +kernel

/-- Sessions in which a status query goes well: without a discard, and with P_MAX_DISCARD of them. -/
def query0 : State := answering openState [.ok 7] [.ok (frameQ 0 0)]
def query8 : State := answering openState [.ok 7] (List.replicate 8 (.ok frameD) ++ [.ok (frameQ 5 2)])

/-- QueryStatusCompletes: no discard, and as many as P_MAX_DISCARD. -/
theorem test_witness_O39 :
    (Ready query0 ∧ ∃ p, exchanges query0 (portOf query0) ((queryOf 0 0 0).exchanges (statusBytes query0)) = some p) ∧
    (Ready query8 ∧ ∃ p, exchanges query8 (portOf query8) ((queryOf 8 5 2).exchanges (statusBytes query8)) = some p) :=
  ⟨⟨by decide, Option.isSome_iff_exists.mp (by decide +kernel)⟩, by decide,
    Option.isSome_iff_exists.mp (by decide +kernel)⟩

/-- The block of the first and of the second pass of a configuration write of REFBLK. -/
def refBlock1 : Nat → Byte := passBlock Config.ref (some 0x1C) refState.blk.read
def refBlock2 : Nat → Byte := passBlock Config.ref (some 0x1D) refBlock1

/-- Sessions with REFBLK in which one pass, two passes, and a poll of two queries before two passes go well. -/
def onePass : State := answering refState passWrites (passReads 0 1)
def twoPasses : State := answering refState (passWrites ++ passWrites) (passReads 5 1 ++ passReads 0 1)
def pollThenPasses : State :=
  answering refState ([.ok 7, .ok 7] ++ passWrites ++ passWrites)
    ([.ok (frameQ 0 0), .ok frameD, .ok (frameQ 0 2)] ++ passReads 5 1 ++ passReads 0 1)

/-- The block of a pass of REFBLK with the write-id mode off. -/
def refBlock0 : Nat → Byte := passBlock Config.ref none refState.blk.read

set_option maxRecDepth 20000 in
/-- RecordPassCompletes: a whole pass with the mode off. -/
theorem test_witness_O40_off :
    (Ready onePass ∧ (0 : Byte).toNat ≤ 1 ∧ onePass.lineValid = 0xFFFF ∧ (∀ i, i < 20 → passResponse 0 1 i ≠ [])) ∧
    refBlock0 = passBlock onePass.par (if (0 : Byte) = 1 then some 0x1C else none) onePass.blk.read ∧
    ∃ p, exchanges onePass (portOf onePass) (passExchanges onePass 1 refBlock0 (passResponse 0 1)) = some p :=
  ⟨by decide +kernel, rfl, Option.isSome_iff_exists.mp (by decide +kernel)⟩

set_option maxRecDepth 20000 in
/-- RecordPassCompletes: a bad mode, and a whole pass with the mode on. -/
theorem test_witness_O40 :
    (SequencerIdle refState ∧ Ready refState ∧ 1 < (2 : Byte).toNat) ∧
    (Ready onePass ∧ (1 : Byte).toNat ≤ 1 ∧ onePass.lineValid = 0xFFFF ∧ (∀ i, i < 20 → passResponse 0 1 i ≠ [])) ∧
    refBlock1 = passBlock onePass.par (if (1 : Byte) = 1 then some 0x1C else none) onePass.blk.read ∧
    ∃ p, exchanges onePass (portOf onePass) (passExchanges onePass 1 refBlock1 (passResponse 0 1)) = some p :=
  ⟨by decide, by decide +kernel, rfl, Option.isSome_iff_exists.mp (by decide +kernel)⟩

set_option maxRecDepth 20000 in
/-- WriteConfigTwoPasses. -/
theorem test_witness_O41 :
    Ready twoPasses ∧ twoPasses.lineValid = 0xFFFF ∧ (1 : Byte) ≠ 0 ∧
    (∀ i, i < 20 → passResponse 5 1 i ≠ [] ∧ passResponse 0 1 i ≠ []) ∧
    refBlock1 = passBlock twoPasses.par (some 0x1C) twoPasses.blk.read ∧
    refBlock2 = passBlock twoPasses.par (some 0x1D) refBlock1 ∧
    ∃ p, exchanges twoPasses (portOf twoPasses)
      (passExchanges twoPasses 1 refBlock1 (passResponse 5 1) ++ passExchanges twoPasses 1 refBlock2 (passResponse 0 1)) =
      some p :=
  ⟨by decide, by decide, by decide, by decide +kernel, rfl, rfl, Option.isSome_iff_exists.mp (by decide +kernel)⟩

set_option maxRecDepth 20000 in
/-- WriteConfigPolls: one query that reports profile 0, then one that reports profile 2 after a discard. -/
theorem test_witness_O42 :
    (Ready pollThenPasses ∧ pollThenPasses.lineValid = 0xFFFF ∧ (queryOf 0 0 0).prof = 0 ∧
      (queryOf 1 0 2).Good pollThenPasses.par ∧ (queryOf 1 0 2).prof ≠ 0 ∧
      [queryOf 0 0 0].length + 1 ≤ pollThenPasses.par.maxPolls) ∧
    ∃ p, exchanges pollThenPasses (portOf pollThenPasses)
      (([queryOf 0 0 0] ++ [queryOf 1 0 2]).flatMap (fun q => q.exchanges (statusBytes pollThenPasses))
        ++ passExchanges pollThenPasses (queryOf 1 0 2).prof refBlock1 (passResponse 5 1)
        ++ passExchanges pollThenPasses (queryOf 1 0 2).prof refBlock2 (passResponse 0 1)) = some p :=
  ⟨by unfold Query.Good; decide +kernel, Option.isSome_iff_exists.mp (by decide +kernel)⟩

/-- A session in which all the 16 queries of a poll report profile 0. -/
def pollsZero : State := answering refState (List.replicate 16 (.ok 7)) (List.replicate 16 (.ok (frameQ 0 0)))

/-- PollExhausted: 16 queries that report profile 0. -/
theorem test_witness_O43 :
    Ready pollsZero ∧ pollsZero.lineValid = 0xFFFF ∧
    (List.replicate 16 (queryOf 0 0 0)).length = pollsZero.par.maxPolls ∧
    (∀ q ∈ List.replicate 16 (queryOf 0 0 0), q.Good pollsZero.par ∧ q.prof = 0) ∧
    ∃ p, exchanges pollsZero (portOf pollsZero)
      ((List.replicate 16 (queryOf 0 0 0)).flatMap fun q => q.exchanges (statusBytes pollsZero)) = some p :=
  ⟨by decide, by decide, by decide, fun q hq => (List.eq_of_mem_replicate hq) ▸ ⟨test_query_good_none, by decide⟩,
    Option.isSome_iff_exists.mp (by decide +kernel)⟩

/-- SequencerStepBound's starts, and the idle sequencer of EveryInstructionEnds. -/
theorem test_witness_O44_O45 :
    startQuery refState ∈ [startQuery refState, startPass 1 1 0x1D refState, startWrite 0 refState] ∧
    SequencerIdle refState := ⟨List.mem_cons_self, by decide⟩

/-- WhoWritesWhat and HistoryOnlyGrows: an idle state and an instruction that writes none of the listed registers. -/
theorem test_witness_O46_O47 :
    SequencerIdle refState ∧ (∃ t, exec .classify refState = .next t) ∧
    writesSession .classify = false ∧ writesObuf .classify = false ∧ writesIbuf .classify = false ∧
    writesCrc .classify = false ∧ writesBlk .classify = false ∧ writesLineValid .classify = false ∧
    writesStatus .classify = false ∧ writesSeq .classify = false ∧ usesTransport .classify = false :=
  ⟨by decide, next_of_isSome (by decide +kernel), by decide⟩

/-- ResultRegisters: an end with OK, one with DEVICE_REJECTED and one with another code. -/
theorem test_witness_O48 :
    (∃ t, exec .crcInit fresh = .next t ∧ (t.res.code == .ok) = true) ∧
    (∃ t, exec .seqQueryStatus (answering openState [.ok 7] [.ok (frameQ 5 1)]) = .next t ∧
      (t.res.code == .deviceRejected) = true) ∧
    (∃ t, exec (.blkRead 3) fresh = .next t ∧ (t.res.code == .blockIncomplete) = true) :=
  ⟨next_of_see (p := fun t => t.res.code == .ok) (by decide +kernel),
    next_of_see (p := fun t => t.res.code == .deviceRejected) (by decide +kernel),
    next_of_see (p := fun t => t.res.code == .blockIncomplete) (by decide +kernel)⟩

/-- EmitOnlyFramesSend and WireFramesAreRefused: a ready session, a closed one and a failed one; software ids 0 and 1. -/
theorem test_witness_O49_O50 :
    (Ready openState ∧ (1 : Nibble) ≠ 0) ∧ (SequencerIdle fresh ∧ (0 : Nibble) = 0) ∧
    sessionRefusal fresh = some (.notOpen, 0) ∧
    (SequencerIdle fatalState ∧ sessionRefusal fatalState = some (.transportError, 0)) := by decide

/-- Sessions in which a wire frame and its reads go well. -/
def switching : State := answering openState [.ok 7] [.ok frameX, .ok [1], .ok frameX]
def ending : State := answering openState [.ok 7] [.ok (frameE 3 1), .ok [1], .ok frameX]
def coloring : State := answering openState [.ok 20] [.ok frameX]
def uncolored : State := { coloring with par := { Config.ref with ledResponses := 0 } }

/-- The short and the long frame of the witnesses below, for each function id. -/
def shortOf (fn : Byte) : List Byte := shortBytes 0xFF 0x0A fn ((0xA : Nibble).setWidth 8) 0 0 0
def longOf (fn : Byte) : List Byte := longBytes 0xFF 0x0A fn ((0xA : Nibble).setWidth 8) (payload [1]).toList

/-- The open session when a frame is taken whole, `reads` frames are then read, and `last` is the next answer. -/
def readingThen (frame : List Byte) (reads : List (List Byte)) (last : ReadAnswer) : State :=
  answering openState [.ok frame.length] (reads.map .ok ++ [last])

/-- The frame is taken, the reads are answered, and the next read fails. -/
abbrev ReadFailsAfter (s : State) (frame : List Byte) (reads : List (List Byte)) : Prop :=
  ∃ p, exchanges s (portOf s) (.sent frame :: reads.map .got) = some p ∧
    p.answerRead (inCall s s.par.timeout) = .fail

/-- The frame is taken, the reads are answered, and the next read is empty. -/
abbrev ReadEmptyAfter (s : State) (frame : List Byte) (reads : List (List Byte)) : Prop :=
  ∃ p, exchanges s (portOf s) (.sent frame :: reads.map .got ++ [.got []]) = some p

/-- FailedSendRaises in ProfileSwitchReads, SetColorReads, BeginAndWriteFramesPace and EndFrameReportsStatus, and the
failed send of StatusFrameQueries: a write that fails and one that is short. -/
theorem test_witness_O51_O55_send :
    ∀ answer ∈ [WriteAnswer.fail, .ok 5],
      Ready (answering openState [answer] []) ∧
      (∀ fn ∈ [0x3, 0x4, 0x8], SendFails (answering openState [answer] []) (shortOf fn)) ∧
      (∀ fn ∈ [0x3, 0x6, 0x7], SendFails (answering openState [answer] []) (longOf fn)) := by decide +kernel

/-- The answer of the read after the frame and the reads. -/
def answerAfter (frame : List Byte) (reads : List (List Byte)) (last : ReadAnswer) : Option ReadAnswer :=
  (exchanges (readingThen frame reads last) (portOf (readingThen frame reads last))
    (.sent frame :: reads.map .got)).map (·.answerRead (inCall openState openState.par.timeout))

/-- What the failed reads below rest on. -/
theorem readFails_of {frame : List Byte} {reads : List (List Byte)} (h : answerAfter frame reads .fail = some .fail) :
    ReadFailsAfter (readingThen frame reads .fail) frame reads := by
  obtain ⟨p, hp, hf⟩ := Option.map_eq_some_iff.mp h
  exact ⟨p, hp, hf⟩

/-- FailedReadRaises: the first read fails, for every frame with reads. -/
theorem test_witness_O51_O54_read :
    Ready openState ∧ openState.par.ledResponses = 1 ∧
    (∀ fn ∈ [(0x3 : Byte), 0x8], ReadFailsAfter (readingThen (shortOf fn) [] .fail) (shortOf fn) []) ∧
    (∀ fn ∈ [(0x3 : Byte), 0x6, 0x7], ReadFailsAfter (readingThen (longOf fn) [] .fail) (longOf fn) []) :=
  ⟨by decide, by decide, fun fn h => readFails_of (by revert fn; decide +kernel),
    fun fn h => readFails_of (by revert fn; decide +kernel)⟩

/-- FailedReadRaises: the third read fails, for the frames with three. -/
theorem test_witness_O51_O54_third :
    [frameX, [1]].length < 3 ∧ (∀ r ∈ [frameX, [1]], r ≠ []) ∧
    ∀ fn ∈ [(0x3 : Byte), 0x8], ReadFailsAfter (readingThen (shortOf fn) [frameX, [1]] .fail) (shortOf fn) [frameX, [1]] :=
  ⟨by decide, by decide, fun fn h => readFails_of (by revert fn; decide +kernel)⟩

/-- EmptyReadEnds: the first read is empty, for every frame with reads; the third is, for those with three. -/
theorem test_witness_O51_O54_empty :
    (∀ fn ∈ [(0x3 : Byte), 0x8], ReadEmptyAfter (readingThen (shortOf fn) [] (.ok [])) (shortOf fn) []) ∧
    (∀ fn ∈ [(0x3 : Byte), 0x6, 0x7], ReadEmptyAfter (readingThen (longOf fn) [] (.ok [])) (longOf fn) []) ∧
    (∀ fn ∈ [(0x3 : Byte), 0x8],
      ReadEmptyAfter (readingThen (shortOf fn) [frameX, [1]] (.ok [])) (shortOf fn) [frameX, [1]]) :=
  ⟨fun fn h => Option.isSome_iff_exists.mp (by revert fn; decide +kernel),
    fun fn h => Option.isSome_iff_exists.mp (by revert fn; decide +kernel),
    fun fn h => Option.isSome_iff_exists.mp (by revert fn; decide +kernel)⟩

/-- StatusFrameQueries: a read that fails first and after P_MAX_DISCARD discard frames. -/
theorem test_witness_O55_read :
    ∀ discards ∈ [[], List.replicate 8 frameD], discards.length ≤ openState.par.maxDiscard ∧
      (∀ d ∈ discards, 4 ≤ d.length ∧ d.getD 3 0 = 0) ∧
      ReadFailsAfter (readingThen (shortOf 0x4) discards .fail) (shortOf 0x4) discards :=
  fun discards h => ⟨by revert discards; decide +kernel, by revert discards; decide +kernel,
    readFails_of (by revert discards; decide +kernel)⟩

/-- StatusFrameQueries: the four mismatches at the ends of their ranges, the third at the discard bound. -/
theorem test_witness_O55_mismatch :
    mismatchAux Config.ref 0 [] = some 0 ∧ mismatchAux Config.ref 0 [1] = some 1 ∧
    mismatchAux Config.ref 8 [1, 2, 3] = some 1 ∧ mismatchAux Config.ref 8 frameD = some 2 ∧
    mismatchAux Config.ref 0 [1, 2, 3, 4] = some 3 ∧ mismatchAux Config.ref 0 ((frameQ 0 1).take 19) = some 3 ∧
    answerAfter (shortOf 0x4) (List.replicate 8 frameD) (.ok frameD) = some (.ok frameD) := by decide +kernel

/-- ProfileSwitchReads: three responses that are not empty. -/
theorem test_witness_O51 :
    Ready switching ∧ (0xA : Nibble) ≠ 0 ∧ frameX ≠ [] ∧ ([1] : List Byte) ≠ [] ∧
    ∃ p, exchanges switching (portOf switching)
      [.sent (shortBytes 0xFF 0x0A 0x3 ((0xA : Nibble).setWidth 8) 2 0 0), .got frameX, .got [1], .got frameX] = some p :=
  ⟨by decide, by decide, by decide, by decide, Option.isSome_iff_exists.mp (by decide +kernel)⟩

/-- SetColorReads: no response and one response. -/
theorem test_witness_O52 :
    (Ready uncolored ∧ ([] : List (List Byte)).length = uncolored.par.ledResponses ∧
      ∃ p, exchanges uncolored (portOf uncolored)
        (.sent (longBytes 0xFF 0x0E 0x3 ((0xA : Nibble).setWidth 8) (payload [1]).toList) ::
          ([] : List (List Byte)).map .got) = some p) ∧
    (Ready coloring ∧ [frameX].length = coloring.par.ledResponses ∧ (∀ r ∈ [frameX], r ≠ []) ∧
      ∃ p, exchanges coloring (portOf coloring)
        (.sent (longBytes 0xFF 0x0E 0x3 ((0xA : Nibble).setWidth 8) (payload [1]).toList) :: [frameX].map .got) = some p) :=
  ⟨⟨by decide, by decide, Option.isSome_iff_exists.mp (by decide +kernel)⟩, by decide, by decide, by decide,
    Option.isSome_iff_exists.mp (by decide +kernel)⟩

/-- BeginAndWriteFramesPace: a response, for each of the two frames. -/
theorem test_witness_O53 :
    Ready coloring ∧ frameX ≠ [] ∧
    (∃ p, exchanges coloring (portOf coloring) [.sent (longOf 0x6), .got frameX] = some p) ∧
    (∃ p, exchanges coloring (portOf coloring) [.sent (longOf 0x7), .got frameX] = some p) :=
  ⟨by decide, by decide, Option.isSome_iff_exists.mp (by decide +kernel),
    Option.isSome_iff_exists.mp (by decide +kernel)⟩

/-- EndFrameReportsStatus: three responses that are not empty. -/
theorem test_witness_O54 :
    Ready ending ∧ frameE 3 1 ≠ [] ∧ ∃ p, exchanges ending (portOf ending)
      [.sent (shortBytes 0xFF 0x0A 0x8 ((0xA : Nibble).setWidth 8) 0 0 0), .got (frameE 3 1), .got [1], .got frameX] =
        some p :=
  ⟨by decide, by decide, Option.isSome_iff_exists.mp (by decide +kernel)⟩

/-- StatusFrameQueries and StatusFrameIsTheQuery. -/
theorem test_witness_O55_O56 :
    Ready query8 ∧ query8.ses.swid ≠ 0 ∧ (queryOf 8 5 2).Good query8.par ∧
    ∃ p, exchanges query8 (portOf query8)
      ((queryOf 8 5 2).exchanges (shortBytes 1 2 0x4 ((0xA : Nibble).setWidth 8) 3 4 5)) = some p :=
  ⟨by decide, by decide, test_query_good_all, Option.isSome_iff_exists.mp (by decide +kernel)⟩

end Sys2Proof.Tests
end

section
/-! The host's step, the state after reset, and the canonical form of BLK. -/

namespace Sys2Proof.Machine

open Sys2Proof.Statements

/-! ## A step of the host (R154) -/

theorem step_command {s : State} {bytes : List Byte} {i : Instr} (hf : fetch s = some (.command bytes))
    (hd : decodeCommand bytes = .ok i) : step s = advance s (exec i s) := by
  simp only [step, hf, hd]

theorem step_frame {s : State} {bytes : List Byte} {i : Instr} (hf : fetch s = some (.frame bytes))
    (hd : decodeFrame bytes = .ok i) : step s = advance s (exec i s) := by
  simp only [step, hf, hd]

/-- Settles O6: in either space the step is `exec` followed by the host's advance. -/
theorem stepRunsDecoded : Obligations.StepRunsDecoded := by
  intro s space bytes i hf hd
  have hstep : step s = advance s (exec i s) := by
    cases space with
    | hostCommand => exact step_command hf hd
    | wireFrame => exact step_frame hf hd
  rw [hstep]
  cases exec i s <;> rfl

/-! ## Reset (R58) -/

/-- Settles O11: the reset event writes every register from `State.reset`, whose literals are the table's. -/
theorem resetValues : Obligations.ResetValues := by
  have hreset : ∀ s, HasResetValues (powerOn s) := fun s =>
    ⟨rfl, rfl, rfl, rfl, rfl, rfl, rfl, rfl, rfl⟩
  exact ⟨powerOn_reset ▸ hreset State.reset, hreset, rfl⟩

/-- Settles O12: no session is open, no frame is held, every status is the sentinel and BLK lists nothing. -/
theorem resetInvariant : Obligations.ResetInvariant where
  idle    := ⟨rfl, rfl, rfl⟩
  passes  := .inl rfl
  frame   := ⟨nofun, nofun⟩
  session := ⟨nofun, nofun⟩
  status  := fun _ => ⟨rfl, rfl⟩
  endSt1  := fun _ => ⟨rfl, rfl⟩
  endSt2  := fun _ => ⟨rfl, rfl⟩
  result  := ⟨Nat.zero_le _, fun _ => rfl⟩
  memory  := ⟨.nil, nofun⟩
  written := nofun

/-! ## The canonical form of BLK -/

/-- An offset below every listed one reads as blank. -/
theorem Memory.read_of_lt {m : Memory} {a : Nat} (h : ∀ cell ∈ m, a < cell.1) : m.read a = Memory.blank := by
  induction m with
  | nil => rfl
  | cons cell rest ih =>
    have ha : cell.1 ≠ a := (h cell (by simp)).ne'
    rw [Memory.read, if_neg ha]
    exact ih fun c hc => h c (by simp [hc])

/-- The first entry of a canonical memory: its own byte is not blank, and the rest is canonical and lies above it. -/
theorem Memory.wf_cons {k : Nat} {v : Byte} {rest : Memory} (h : Memory.wf ((k, v) :: rest)) :
    (k < 256 ∧ v ≠ Memory.blank) ∧ (∀ cell ∈ rest, k < cell.1) ∧ rest.wf := by
  obtain ⟨hrise, hcells⟩ := h
  obtain ⟨hk, hrest⟩ := List.pairwise_cons.mp hrise
  exact ⟨hcells (k, v) (by simp), hk, hrest, fun cell hc => hcells cell (by simp [hc])⟩

/-- A memory that lists a byte at an offset does not read there like one whose entries all lie above it. -/
theorem Memory.read_head_ne {k : Nat} {v : Byte} {rest m : Memory} (hv : v ≠ Memory.blank) (h : ∀ cell ∈ m, k < cell.1) :
    Memory.read ((k, v) :: rest) k ≠ m.read k := by
  rw [Memory.read_of_lt h, Memory.read, if_pos rfl]
  exact hv

/-- Two canonical memories that read alike start with the same offset, and so with the same byte. -/
theorem Memory.heads_eq {k k' : Nat} {v v' : Byte} {rest rest' : Memory} (h : Memory.wf ((k, v) :: rest))
    (h' : Memory.wf ((k', v') :: rest'))
    (hread : ∀ a, a < 256 → Memory.read ((k, v) :: rest) a = Memory.read ((k', v') :: rest') a) : k = k' ∧ v = v' := by
  obtain ⟨⟨hk, hv⟩, habove, -⟩ := Memory.wf_cons h
  obtain ⟨⟨hk', hv'⟩, habove', -⟩ := Memory.wf_cons h'
  have hkk : k = k' := by
    rcases Nat.lt_trichotomy k k' with hlt | heq | hgt
    · exact absurd (hread k hk) (Memory.read_head_ne hv
        (List.forall_mem_cons.mpr ⟨hlt, fun cell hc => hlt.trans (habove' cell hc)⟩))
    · exact heq
    · exact absurd (hread k' hk').symm (Memory.read_head_ne hv'
        (List.forall_mem_cons.mpr ⟨hgt, fun cell hc => hgt.trans (habove cell hc)⟩))
  subst hkk
  simpa [Memory.read] using hread k hk

/-- Settles O14, by induction on the first memory: the heads are equal, and the tails read alike, at the head's own
offset because neither lists it. -/
theorem memoryIsCanonical : Obligations.MemoryIsCanonical := by
  intro m
  induction m with
  | nil =>
    intro m' _ h' hread
    cases m' with
    | nil => rfl
    | cons cell' rest' =>
      obtain ⟨⟨hk, hv⟩, -, -⟩ := Memory.wf_cons h'
      exact absurd (hread _ hk).symm (Memory.read_head_ne hv nofun)
  | cons cell rest ih =>
    intro m' h h' hread
    cases m' with
    | nil =>
      obtain ⟨⟨hk, hv⟩, -, -⟩ := Memory.wf_cons h
      exact absurd (hread _ hk) (Memory.read_head_ne hv nofun)
    | cons cell' rest' =>
      obtain ⟨k, v⟩ := cell
      obtain ⟨k', v'⟩ := cell'
      obtain ⟨rfl, rfl⟩ := Memory.heads_eq h h' hread
      obtain ⟨-, habove, hrest⟩ := Memory.wf_cons h
      obtain ⟨-, habove', hrest'⟩ := Memory.wf_cons h'
      rw [ih rest' hrest hrest' fun a ha => ?_]
      by_cases hka : k = a
      · subst hka
        rw [Memory.read_of_lt habove, Memory.read_of_lt habove']
      · simpa [Memory.read, hka] using hread a ha

end Sys2Proof.Machine
end

section
/-! What a command leaves behind, as one contract. `OnlyWrites` says which pieces of R59's access summary may have
changed; `Work` is what a command does before its end, `Ends` what it leaves at its end (R510). Each operation of the
model meets the contract, and a composite meets it because its parts do. -/

namespace Sys2Proof.Machine

/-! ## Pieces of state (R59) -/

/-- The rows of the access summary (R59). -/
inductive Piece where
  | session
  | obuf
  | ibuf
  | crc
  | blk
  | lineValid
  | status
  | seq
  | history
  deriving DecidableEq

/-- A piece is the same in two states. SES_FATAL is left out of the session: every raise may set it (R511). A raise
returns SEQ_OP, SEQ_PHASE and SEQ_PASS (R510), so the sequencer is compared from an idle one only. -/
def Piece.Same : Piece → State → State → Prop
  | .session, s, t => t.ses = { s.ses with fatal := t.ses.fatal }
  | .obuf, s, t => t.obuf = s.obuf ∧ t.olen = s.olen
  | .ibuf, s, t => t.ibuf = s.ibuf ∧ t.ilen = s.ilen
  | .crc, s, t => t.crc = s.crc
  | .blk, s, t => t.blk = s.blk
  | .lineValid, s, t => t.lineValid = s.lineValid
  | .status, s, t => t.st = s.st
  | .seq, s, t => SequencerIdle s → t.seq = s.seq
  | .history, s, t => t.history = s.history

theorem Piece.Same.trans {p : Piece} {s t u : State} (h : p.Same s t) (h' : p.Same t u) : p.Same s u := by
  cases p with
  | session =>
    simp only [Piece.Same] at h h' ⊢
    rw [h', h]
  | obuf | ibuf => exact ⟨h'.1.trans h.1, h'.2.trans h.2⟩
  | crc | blk | lineValid | status | history => exact Eq.trans h' h
  | seq =>
    intro hi
    have ht : t.seq = s.seq := h hi
    have hit : SequencerIdle t := by simpa only [SequencerIdle, ht] using hi
    exact (h' hit).trans ht

/-- Only the pieces that `W` names may have changed. -/
def OnlyWrites (W : Piece → Bool) (s t : State) : Prop := ∀ p, W p = false → p.Same s t

theorem OnlyWrites.trans {W : Piece → Bool} {s t u : State} (h : OnlyWrites W s t) (h' : OnlyWrites W t u) :
    OnlyWrites W s u := fun p hp => (h p hp).trans (h' p hp)

section
variable {W : Piece → Bool} {rej : Bool} {s t u : State}

theorem Piece.same_refl (p : Piece) (s : State) : p.Same s s := by
  cases p with
  | obuf | ibuf => exact ⟨rfl, rfl⟩
  | seq => exact fun _ => rfl
  | _ => exact rfl

theorem onlyWrites_refl (s : State) : OnlyWrites W s s := fun p _ => p.same_refl s

theorem onlyWrites_raise (site : RaiseSite) (code : ResultCode) (aux : Byte) (s : State) :
    OnlyWrites W s (raise site code aux s) := by
  intro p _
  cases p with
  | seq =>
    rintro ⟨hop, hphase, hpass⟩
    rw [raise_seq, ← hop, ← hphase, ← hpass]
  | session => exact rfl
  | _ => simp [Piece.Same]

theorem onlyWrites_finish (code : ResultCode) (data : List Byte) (s : State) :
    OnlyWrites W s (finish code data s) := by
  intro p _
  cases p <;> simp [Piece.Same]

/-- A write of the sequencer's registers. -/
theorem onlyWrites_seq (hs : W .seq = true) (q : Sequencer) (s : State) : OnlyWrites W s { s with seq := q } := by
  intro p hp
  cases p with
  | seq => cases hs.symm.trans hp
  | _ => simp [Piece.Same]

/-! ## Results (R54, R510, R514) -/

/-- Every code but OK and DEVICE_REJECTED. -/
abbrev ResultCode.IsFault (code : ResultCode) : Prop := code ≠ .ok ∧ code ≠ .deviceRejected

/-- What a command leaves in RES_*; `rej` says whether it may report DEVICE_REJECTED. -/
structure Result.Formed (rej : Bool) (r : Result) : Prop where
  info     : r.code = .ok ∨ r.code = .deviceRejected → r.info = FaultRecord.zero
  noData   : r.code.IsFault → r.data = []
  length   : r.data.length ≤ 16
  rejected : r.code = .deviceRejected → rej = true ∧ r.data ≠ []

theorem formed_fault {code : ResultCode} (h : code.IsFault) (info : FaultRecord) :
    (⟨code, info, []⟩ : Result).Formed rej where
  info hc := absurd hc (not_or.mpr h)
  noData _ := rfl
  length := Nat.zero_le _
  rejected hc := absurd hc h.2

theorem formed_ok {data : List Byte} (h : data.length ≤ 16) : (⟨.ok, FaultRecord.zero, data⟩ : Result).Formed rej where
  info _ := rfl
  noData hc := absurd rfl hc.1
  length := h
  rejected := nofun

theorem formed_reported {code : ResultCode} {data : List Byte} (hc : code = .ok ∨ code = .deviceRejected)
    (h : data.length ≤ 16) (hd : data ≠ []) : (⟨code, FaultRecord.zero, data⟩ : Result).Formed true where
  info _ := rfl
  noData hf := absurd hc (not_or.mpr hf)
  length := h
  rejected _ := ⟨rfl, hd⟩

theorem Status.resultCode_cases (st : Status) : st.resultCode = .ok ∨ st.resultCode = .deviceRejected := by
  unfold Status.resultCode
  split
  · exact .inr rfl
  · exact .inl rfl

/-! ## The invariant but for the idle sequencer -/

/-- Every part of `Inv` but that the sequencer is idle: it holds inside a sequencer command too. -/
abbrev Sound (s : State) : Prop := Inv (retire s)

theorem Inv.sound (h : Inv s) : Sound s := { h with idle := ⟨rfl, rfl, rfl⟩ }

theorem Sound.inv (h : Sound s) (hi : SequencerIdle s) : Inv s := { h with idle := hi }

/-- Moving the host touches no register of the block. -/
theorem Inv.movePos (h : Inv s) (pos : Nat) : Inv { s with pos := pos } := { h with }

theorem Sound.finish (h : Sound s) {code : ResultCode} {data : List Byte} (hd : data.length ≤ 16) :
    Sound (finish code data s) :=
  { h with result := ⟨hd, fun _ => rfl⟩ }

/-- A TRANSPORT_ERROR is raised in an open session only, so SES_FATAL stays within one (R511, R512). -/
theorem Sound.raise (h : Sound s) (site : RaiseSite) {code : ResultCode} (aux : Byte) (hc : code.IsFault)
    (ho : code = .transportError → s.ses.isOpen = true) : Sound (raise site code aux s) :=
  { h with
    idle := ⟨rfl, rfl, rfl⟩
    result := ⟨Nat.zero_le _, fun hk => absurd hk (not_or.mpr hc)⟩
    session := ⟨fun hf => by
      rcases Bool.or_eq_true_iff.mp hf with hf | hf
      · exact h.session.1 hf
      · exact ho (of_decide_eq_true hf), h.session.2⟩ }

/-! ## Work: what a command does before its end -/

/-- `u` is `s` after part of a command: only pieces of `W` are written, the session and the sequencer's place (SEQ_OP,
SEQ_PHASE, SEQ_PASS) stay. -/
structure Work (W : Piece → Bool) (s u : State) : Prop where
  frame : OnlyWrites W s u
  sound : Sound s → Sound u
  ses   : u.ses = s.ses := by rfl
  op    : u.seq.op = s.seq.op := by rfl
  phase : u.seq.phase = s.seq.phase := by rfl
  pass  : u.seq.pass = s.seq.pass := by rfl

theorem work_refl (s : State) : Work W s s := ⟨onlyWrites_refl s, id, rfl, rfl, rfl, rfl⟩

theorem Work.trans (h : Work W s t) (h' : Work W t u) : Work W s u where
  frame := h.frame.trans h'.frame
  sound := h'.sound ∘ h.sound
  ses := h'.ses.trans h.ses
  op := h'.op.trans h.op
  phase := h'.phase.trans h.phase
  pass := h'.pass.trans h.pass

theorem Work.idle (h : Work W s u) (hi : SequencerIdle s) : SequencerIdle u :=
  ⟨h.op.trans hi.1, h.phase.trans hi.2.1, h.pass.trans hi.2.2⟩

theorem frameAgrees_shortFrame {dev feat : Byte} {fn sw : Nibble} {a b c : Byte} :
    FrameAgrees (loadFrame .short (shortFrame dev feat fn sw a b c) s) :=
  ⟨fun _ => by simp [getElem_overlay, shortFrame], nofun⟩

theorem frameAgrees_longFrame {dev feat : Byte} {fn sw : Nibble} {payload : Payload} :
    FrameAgrees (loadFrame .long (longFrame dev feat fn sw payload) s) :=
  ⟨nofun, fun _ => by simp [getElem_overlay, longFrame]⟩

theorem work_loadFrame (ho : W .obuf = true) {len : OutLen} {frame : List Byte}
    (ha : FrameAgrees (loadFrame len frame s)) : Work W s (loadFrame len frame s) where
  frame p hp := by
    cases p with
    | obuf => cases ho.symm.trans hp
    | _ => simp [Piece.Same]
  sound h := { h with frame := ha }

theorem work_afterWrite (hh : W .history = true) (s : State) : Work W s (afterWrite s) where
  frame p hp := by
    cases p with
    | history => cases hh.symm.trans hp
    | _ => simp [Piece.Same]
  sound h := { h with }

theorem work_read (hh : W .history = true) (hi : W .ibuf = true) (bytes : List Byte) (timeout : Nat) (s : State) :
    Work W s (storeInbound bytes (afterRead timeout s)) where
  frame p hp := by
    cases p with
    | history => cases hh.symm.trans hp
    | ibuf => cases hi.symm.trans hp
    | _ => simp [Piece.Same]
  sound h := { h with }

theorem work_afterRead (hh : W .history = true) (timeout : Nat) (s : State) : Work W s (afterRead timeout s) where
  frame p hp := by
    cases p with
    | history => cases hh.symm.trans hp
    | _ => simp [Piece.Same]
  sound h := { h with }

theorem work_crc (hc : W .crc = true) (c : Half) (s : State) : Work W s { s with crc := c } where
  frame p hp := by
    cases p with
    | crc => cases hc.symm.trans hp
    | _ => simp [Piece.Same]
  sound h := { h with }

theorem work_status (hw : W .status = true) {st : Status} (hst : st.Sane) (s : State) :
    Work W s { s with st := st } where
  frame p hp := by
    cases p with
    | status => cases hw.symm.trans hp
    | _ => simp [Piece.Same]
  sound h := { h with status := hst }

/-- A write to BLK and LINE_VALID that keeps the canonical form and the written lines. -/
theorem work_blk (hb : W .blk = true) {blk : Memory} {valid : BitVec 16} (hv : W .lineValid = true ∨ valid = s.lineValid)
    (hwf : s.blk.wf → blk.wf)
    (hwr : s.blk.wf → OnlyWrittenLines s → OnlyWrittenLines { s with blk := blk, lineValid := valid }) :
    Work W s { s with blk := blk, lineValid := valid } where
  frame p hp := by
    cases p with
    | blk => cases hb.symm.trans hp
    | lineValid => exact hv.resolve_left (by rw [hp]; nofun)
    | _ => simp [Piece.Same]
  sound h := { h with memory := hwf h.memory, written := hwr h.memory h.written }

/-- An update of the sequencer's counters and operands: its place and the number of passes stay, and
the End statuses stay sane. -/
theorem work_seq (hs : W .seq = true) (q : Sequencer) (s : State) (hop : q.op = s.seq.op := by rfl)
    (hphase : q.phase = s.seq.phase := by rfl) (hpass : q.pass = s.seq.pass := by rfl)
    (hpasses : q.passes = s.seq.passes := by rfl) (hend1 : s.seq.endSt1.Sane → q.endSt1.Sane := by exact id)
    (hend2 : s.seq.endSt2.Sane → q.endSt2.Sane := by exact id) : Work W s { s with seq := q } where
  frame := onlyWrites_seq hs q s
  sound h :=
    { h with
      passes := hpasses ▸ h.passes
      endSt1 := hend1 h.endSt1
      endSt2 := hend2 h.endSt2 }
  op := hop
  phase := hphase
  pass := hpass

theorem decodedStatus_sane (s : State) : (decodedStatus s).Sane := by
  unfold decodedStatus
  split
  · exact nofun
  · exact fun _ => ⟨rfl, rfl⟩

theorem work_recordEndStatus (hs : W .seq = true) {st : Status} (hst : st.Sane) (s : State) :
    Work W s (recordEndStatus st s) := by
  unfold recordEndStatus
  split
  · exact work_seq hs _ s (hend1 := fun _ => hst)
  · exact work_seq hs _ s (hend2 := fun _ => hst)

/-! ## The end of a command -/

/-- `t` is what a command started at `s` leaves: only pieces of `W` are written, SES_FATAL is set by a TRANSPORT_ERROR
and by nothing else (R511), and the result is in form. -/
structure Ends (W : Piece → Bool) (rej : Bool) (s t : State) : Prop where
  frame  : OnlyWrites W s t
  sound  : Sound s → Sound t
  fatal  : W .session = false → t.ses.fatal = (s.ses.fatal || t.res.code = .transportError)
  idle   : SequencerIdle s → SequencerIdle t
  result : t.res.Formed rej

/-- No second command ran. -/
theorem ends_refl (hok : s.res.code = .ok) (hr : s.res.Formed rej) : Ends W rej s s :=
  ⟨onlyWrites_refl s, id, fun _ => by simp [hok], id, hr⟩

/-- A second command after one that ended with OK. -/
theorem Ends.trans (h : Ends W rej s u) (hok : u.res.code = .ok) (h' : Ends W rej u t) : Ends W rej s t where
  frame := h.frame.trans h'.frame
  sound := h'.sound ∘ h.sound
  fatal hw := by rw [h'.fatal hw, h.fatal hw, hok]; simp
  idle := h'.idle ∘ h.idle
  result := h'.result

theorem Work.ends (h : Work W s u) (h' : Ends W rej u t) : Ends W rej s t where
  frame := h.frame.trans h'.frame
  sound := h'.sound ∘ h.sound
  fatal hw := by rw [h'.fatal hw, h.ses]
  idle := h'.idle ∘ h.idle
  result := h'.result

theorem ends_finish {code : ResultCode} {data : List Byte} (hc : code = .ok ∨ code = .deviceRejected)
    (hf : (⟨code, FaultRecord.zero, data⟩ : Result).Formed rej) (s : State) : Ends W rej s (finish code data s) where
  frame := onlyWrites_finish code data s
  sound h := h.finish hf.length
  fatal _ := by rcases hc with rfl | rfl <;> simp
  idle h := h
  result := hf

theorem ends_raise (site : RaiseSite) {code : ResultCode} (aux : Byte) (hc : code.IsFault)
    (ho : Sound s → code = .transportError → s.ses.isOpen = true) : Ends W rej s (raise site code aux s) where
  frame := onlyWrites_raise site code aux s
  sound h := h.raise site aux hc (ho h)
  fatal _ := rfl
  idle _ := ⟨rfl, rfl, rfl⟩
  result := formed_fault hc _

theorem Work.endsWith (h : Work W s u) {code : ResultCode} {data : List Byte} (hc : code = .ok ∨ code = .deviceRejected)
    (hf : (⟨code, FaultRecord.zero, data⟩ : Result).Formed rej) : Ends W rej s (finish code data u) :=
  h.ends (ends_finish hc hf u)

theorem Work.endsOk (h : Work W s u) {data : List Byte} (hd : data.length ≤ 16) : Ends W rej s (finish .ok data u) :=
  h.endsWith (.inl rfl) (formed_ok hd)

/-- A raise of TRANSPORT_ERROR by the transport port: the session is open. -/
theorem Work.endsTransportError (h : Work W s u) (site : RaiseSite) (aux : Byte) (ho : s.ses.isOpen = true) :
    Ends W rej s (raise site .transportError aux u) :=
  h.ends (ends_raise site aux ⟨nofun, nofun⟩ fun _ _ => h.ses ▸ ho)

theorem Work.endsFault (h : Work W s u) (site : RaiseSite) (code : ResultCode) (aux : Byte)
    (hc : code.IsFault := by decide) (ht : code ≠ .transportError := by decide) :
    Ends W rej s (raise site code aux u) :=
  h.ends (ends_raise site aux hc fun _ he => absurd he ht)

/-! ## Admission (R513) -/

/-- When no check fails, each of them passes. -/
theorem eq_none_of_firstFailing {checks : List Check} (h : firstFailing checks = none) : ∀ c ∈ checks, c = none := by
  induction checks with
  | nil => exact nofun
  | cons c rest ih =>
    cases c with
    | none => exact List.forall_mem_cons.mpr ⟨rfl, ih h⟩
    | some failure => cases h

theorem check_eq_none {bad : Bool} {code : ResultCode} {aux : Byte} : check bad code aux = none ↔ bad = false := by
  cases bad <;> simp

/-- A check fails with a fault, and with TRANSPORT_ERROR only because SES_FATAL is set (R512). -/
def ProperCheck (s : State) (c : Check) : Prop :=
  ∀ code aux, c = some (code, aux) → code.IsFault ∧ (code = .transportError → s.ses.fatal = true)

theorem properCheck_check (bad : Bool) (code : ResultCode) (aux : Byte) (hc : code.IsFault := by decide)
    (ht : code ≠ .transportError := by decide) : ProperCheck s (check bad code aux) := by
  intro code' aux' h
  cases bad with
  | false => cases h
  | true => cases h; exact ⟨hc, fun he => absurd he ht⟩

theorem properCheck_fatal : ProperCheck s (check s.ses.fatal .transportError 0) := by
  intro code aux h
  cases hf : s.ses.fatal with
  | false => rw [hf] at h; cases h
  | true => rw [hf] at h; cases h; exact ⟨⟨nofun, nofun⟩, fun _ => rfl⟩

theorem properCheck_complete : ProperCheck s (completeCheck s) := by
  intro code aux h
  unfold completeCheck at h
  split at h
  · cases h; exact ⟨⟨nofun, nofun⟩, nofun⟩
  · cases h

theorem properCheck_transportChecks {rest : List Check} (h : ∀ c ∈ rest, ProperCheck s c) :
    ∀ c ∈ transportChecks s ++ rest, ProperCheck s c := by
  refine List.forall_mem_cons.mpr ⟨properCheck_check _ _ _, ?_⟩
  exact List.forall_mem_cons.mpr ⟨properCheck_fatal, h⟩

theorem properCheck_encoderChecks (fn sw : Byte) : ∀ c ∈ encoderChecks fn sw, ProperCheck s c := by
  simp only [encoderChecks, List.forall_mem_cons]
  exact ⟨properCheck_check _ _ _, properCheck_check _ _ _, properCheck_check _ _ _, properCheck_check _ _ _, nofun⟩

/-- An admission that answers a next state: a refusal, or the body's answer. -/
theorem guarded_ends {checks : List Check} {body : State → Outcome} (h : guarded checks s body = .next t)
    (hc : ∀ c ∈ checks, ProperCheck s c) (hb : firstFailing checks = none → body s = .next t → Ends W rej s t) :
    Ends W rej s t := by
  rcases guarded_cases checks s body with ⟨hpass, he⟩ | ⟨code, aux, hfail, he⟩
  · exact hb hpass (he ▸ h)
  · obtain ⟨hf, ht⟩ := hc _ (firstFailing_mem hfail) code aux rfl
    rw [he] at h
    cases h
    exact ends_raise _ _ hf fun hs hcode => hs.session.1 (ht hcode)

/-! ## Composites (R440) -/

/-- A composite meets the contract of its two commands. -/
theorem andThen_ends {first : Outcome} {second : State → Outcome} (h : andThen first second = .next t)
    (h1 : ∀ u, first = .next u → Ends W rej s u)
    (h2 : ∀ u, first = .next u → u.res.code = .ok → u.res.Formed rej → second u = .next t → Ends W rej u t) :
    Ends W rej s t := by
  obtain ⟨u, hu, ⟨-, rfl⟩ | ⟨hok, ht⟩⟩ := andThen_next h
  · exact h1 u hu
  · exact (h1 u hu).trans hok (h2 u hu hok (h1 u hu).result ht)

end

end Sys2Proof.Machine
end

section
/-! The sequencer meets the contract: which pieces each phase writes, which phases each command runs through, and that
every step of a run goes on in one of those phases or ends the command (R380, R385, R390, R510). -/

namespace Sys2Proof.Machine

/-! ## The phases of a run -/

/-- The phases of a status query (R381). -/
def queryPhases : List SeqPhase := [.qTx, .qRx]

/-- The phases of a record pass (R391). -/
def passPhases : List SeqPhase := [.prep, .bTx, .bRx, .lTx, .lRx, .eTx, .eRx]

/-- The phases a sequencer command runs through (R390). -/
def phasesOf : SeqOp → List SeqPhase
  | .none => []
  | .query => queryPhases
  | .pass => passPhases
  | .write => queryPhases ++ passPhases

/-- The pieces a phase writes (R380). -/
def phaseWrites : SeqPhase → List Piece
  | .idle => []
  | .qTx | .bTx | .lTx | .eTx => [.obuf, .history, .seq]
  | .qRx => [.ibuf, .history, .status, .seq]
  | .prep => [.crc, .blk, .seq]
  | .bRx | .lRx | .eRx => [.ibuf, .history, .seq]

/-- The pieces a sequencer command writes. -/
def runWrites (op : SeqOp) (p : Piece) : Bool := (phasesOf op).any fun phase => (phaseWrites phase).contains p

theorem runWrites_of_phase {op : SeqOp} {phase : SeqPhase} (h : phase ∈ phasesOf op) {p : Piece}
    (hp : p ∈ phaseWrites phase) : runWrites op p = true :=
  List.any_eq_true.mpr ⟨phase, h, List.contains_iff_mem.mpr hp⟩

theorem runWrites_lineValid (op : SeqOp) : runWrites op .lineValid = false := by cases op <;> rfl

theorem idle_not_mem_phasesOf (op : SeqOp) : SeqPhase.idle ∉ phasesOf op := by cases op <;> decide

/-- A command that runs one phase of a pass runs them all, and is no query. -/
theorem passPhases_of_mem {op : SeqOp} {phase : SeqPhase} (h : phase ∈ phasesOf op) (hp : phase ∈ passPhases) :
    op ≠ .query ∧ ∀ phase' ∈ passPhases, phase' ∈ phasesOf op := by
  cases op with
  | none => cases h
  | query => cases phase <;> revert h hp <;> decide
  | pass => exact ⟨nofun, fun _ h' => h'⟩
  | write => exact ⟨nofun, fun _ h' => List.mem_append_right _ h'⟩

/-- A command that runs one phase of a query runs both, and is the query or the configuration write. -/
theorem queryPhases_of_mem {op : SeqOp} {phase : SeqPhase} (h : phase ∈ phasesOf op) (hp : phase ∈ queryPhases) :
    (op = .query ∨ op = .write) ∧ ∀ phase' ∈ queryPhases, phase' ∈ phasesOf op := by
  cases op with
  | none => cases h
  | query => exact ⟨.inl rfl, fun _ h' => h'⟩
  | pass => cases phase <;> revert h hp <;> decide
  | write => exact ⟨.inr rfl, fun _ h' => List.mem_append_left _ h'⟩

/-! ## Written lines (R505) -/

/-- Every line of BLK is written. -/
def AllWritten (s : State) : Prop := ∀ k, k < 16 → s.lineValid.getLsbD k = true

theorem allWritten_of_completeCheck {s : State} (h : completeCheck s = none) : AllWritten s := by
  intro k hk
  unfold completeCheck at h
  split at h
  · cases h
  · next hnone =>
    have := List.find?_eq_none.mp hnone k (List.mem_range.mpr hk)
    simpa using this

/-- With every line written, any canonical contents lie in written lines. -/
theorem AllWritten.only {s : State} (h : AllWritten s) {blk : Memory} (hwf : blk.wf) :
    OnlyWrittenLines { s with blk := blk } := by
  intro cell hc
  have := (hwf.2 cell hc).1
  exact h _ (by omega)

section
variable {W : Piece → Bool} {s t u : State}

theorem work_sealBlock (hc : W .crc = true) (hb : W .blk = true) (hl : AllWritten s) : Work W s (sealBlock s) :=
  (work_blk (s := s) hb (blk := writeTrailer s.blk (blockChecksum s.blk)) (.inr rfl)
    (fun hwf => wf_writeTrailer hwf _) fun hwf _ => hl.only (wf_writeTrailer hwf _)).trans
    (work_crc hc _ _)

theorem work_insertWriteId (hb : W .blk = true) (hs : W .seq = true) (hl : AllWritten s) : Work W s (insertWriteId s) := by
  have hpos : s.par.widPos < 256 := (widPos_lt s.par).trans (by decide)
  unfold insertWriteId
  split
  · exact (work_blk hb (.inr rfl) (Memory.wf_write · _ hpos) fun hwf _ => hl.only (Memory.wf_write hwf _ hpos)).trans
      (work_seq hs _ _)
  · exact work_refl s

/-! ## A run of the sequencer -/

/-- What the steps of a sequencer command `op` lead to from `s`: the command goes on, the session as it was, or it has
ended. -/
inductive Run (W : Piece → Bool) (op : SeqOp) (s t : State) : Prop where
  | goesOn (frame : OnlyWrites W s t) (sound : Sound s → Sound t) (ses : t.ses = s.ses) (hop : t.seq.op = op)
      (hphase : t.seq.phase ∈ phasesOf op)
  | ended (idle : SequencerIdle t) (ends : Ends W true s t)

/-- A step ends with a new place in the sequencer. -/
theorem Work.run (h : Work W s u) (hs : W .seq = true) (q : Sequencer) (hphase : q.phase ∈ phasesOf s.seq.op)
    (hop : q.op = u.seq.op := by rfl) (hpasses : q.passes = u.seq.passes := by rfl)
    (hend1 : q.endSt1 = u.seq.endSt1 := by rfl) (hend2 : q.endSt2 = u.seq.endSt2 := by rfl) :
    Run W s.seq.op s { u with seq := q } :=
  have hsound (hu : Sound u) : Sound { u with seq := q } :=
    { hu with passes := hpasses ▸ hu.passes, endSt1 := hend1 ▸ hu.endSt1, endSt2 := hend2 ▸ hu.endSt2 }
  .goesOn (h.frame.trans (onlyWrites_seq hs q u)) (hsound ∘ h.sound) h.ses (hop.trans h.op) hphase

/-- A step ends with a raise of the transport port. -/
theorem Work.runTransportError (h : Work W s u) (aux : Byte) (ho : s.ses.isOpen = true) (op : SeqOp) :
    Run W op s (raise .step .transportError aux u) :=
  .ended ⟨rfl, rfl, rfl⟩ (h.endsTransportError .step aux ho)

/-- A step ends with another raise. -/
theorem Work.runFault (h : Work W s u) (code : ResultCode) (aux : Byte) (op : SeqOp) (hc : code.IsFault := by decide)
    (ht : code ≠ .transportError := by decide) : Run W op s (raise .step code aux u) :=
  .ended ⟨rfl, rfl, rfl⟩ (h.endsFault .step code aux hc ht)

/-- A step ends with a completion (R385). -/
theorem Work.runComplete (h : Work W s u) (hs : W .seq = true) {code : ResultCode} {data : List Byte} (op : SeqOp)
    (hc : code = .ok ∨ code = .deviceRejected) (hl : data.length ≤ 16) (hd : data ≠ []) :
    Run W op s (retire (finish code data u)) :=
  have he : Ends W true s (finish code data u) := h.endsWith hc (formed_reported hc hl hd)
  .ended ⟨rfl, rfl, rfl⟩
    { he with
      frame := he.frame.trans (onlyWrites_seq hs _ _)
      sound := fun hu => (he.sound hu).sound
      idle := fun _ => ⟨rfl, rfl, rfl⟩ }

/-! ## The steps (R380) -/

/-- A send step once the frame is in OBUF: a whole send goes on with `use`. -/
def sendThen (use : State → State) (s : State) : State :=
  match send .step s with
  | .ok t => use t
  | .error t => t

theorem sendQuery_eq (s : State) : sendQuery s = sendThen (toPhase .qRx) { s with seq.disc := 0 } := rfl

theorem stepBTx_eq (s : State) : stepBTx s = sendThen (toPhase .bRx) (loadFrame .long (beginFrame s) s) := rfl

theorem stepLTx_eq (s : State) : stepLTx s = sendThen (toPhase .lRx) (loadFrame .long (lineFrame s) s) := rfl

theorem stepETx_eq (s : State) :
    stepETx s =
      sendThen (fun t => { t with seq.rxleft := 3, seq.phase := .eRx }) (loadFrame .short (endFrame s) s) := rfl

section
variable (ho : s.ses.isOpen = true) (hp : s.seq.phase ∈ phasesOf s.seq.op)
include ho

theorem sendThen_run (hh : W .history = true) {use : State → State} {op : SeqOp} (hu : Work W s u)
    (huse : Work W s (afterWrite u) → Run W op s (use (afterWrite u))) : Run W op s (sendThen use u) := by
  have hw : Work W s (afterWrite u) := hu.trans (work_afterWrite hh u)
  unfold sendThen
  rcases send_cases .step u with ⟨-, h⟩ | ⟨-, h⟩ <;> rw [h]
  · exact huse hw
  · exact hw.runTransportError 1 ho op

/-- A send step of a pass: the block's own frame is built and sent (R132). -/
theorem sendFrame_run (hW : ∀ p ∈ [Piece.obuf, .history, .seq], W p = true) {len : OutLen} {frame : List Byte}
    (ha : FrameAgrees (loadFrame len frame s)) {use : State → State} {op : SeqOp}
    (huse : ∀ u, Work W s u → Run W op s (use u)) : Run W op s (sendThen use (loadFrame len frame s)) :=
  sendThen_run ho (hW .history (by decide)) (work_loadFrame (hW .obuf (by decide)) ha) (huse _)

theorem paced_run (hh : W .history = true) (hi : W .ibuf = true) {use : State → State} {op : SeqOp}
    (huse : ∀ u, Work W s u → Run W op s (use u)) : Run W op s (paced use s) := by
  rcases paced_cases use s with ⟨bytes, -, -, -, h⟩ | ⟨-, h⟩ | ⟨-, h⟩ <;> rw [h]
  · exact huse _ (work_read hh hi bytes _ s)
  · exact (work_read hh hi [] _ s).runTransportError 3 ho _
  · exact (work_afterRead hh _ s).runTransportError 2 ho _

/-- Sending the status query's frame, the block's own or a frame of the host (R381, R255). -/
theorem sendQuery_run (hq : SeqPhase.qRx ∈ phasesOf s.seq.op) (hu : Work W s u) (hh : W .history = true)
    (hs : W .seq = true) : Run W s.seq.op s (sendQuery u) :=
  sendQuery_eq u ▸ sendThen_run ho hh (hu.trans (work_seq hs _ u)) fun hw => hw.run hs _ hq

omit ho

/-- The profile poll goes on to the first pass or to the next query (R384). -/
theorem pollStatus_run (hu : Work W s u) (hs : W .seq = true) (hop : s.seq.op = .write) :
    Run W s.seq.op s (pollStatus u) := by
  have hpolls := hu.trans (work_seq hs { u.seq with polls := u.seq.polls + 1 } u)
  have hmem (phase : SeqPhase) (h : phase ∈ phasesOf .write) : phase ∈ phasesOf s.seq.op := hop ▸ h
  unfold pollStatus
  dsimp only
  split
  · exact hpolls.run hs _ (hmem .prep (by decide))
  · split
    · exact hpolls.runFault .profilePollExhausted _ _
    · exact hpolls.run hs _ (hmem .qTx (by decide))

/-- A candidate completes the query, or is a poll's status (R380). -/
theorem takeCandidate_run (hu : Work W s u) (hs : W .seq = true) (hst : W .status = true)
    (hop : s.seq.op = .query ∨ s.seq.op = .write) : Run W s.seq.op s (takeCandidate u) := by
  unfold takeCandidate
  split
  · exact hu.runFault .protocolMismatch 3 _
  · have hw := hu.trans (work_status hst (st := ⟨true, u.ibuf[4], u.ibuf[5]⟩) nofun u)
    dsimp only
    split
    · refine hw.runComplete hs _ ?_ (by simp) nofun
      split
      · exact .inr rfl
      · exact .inl rfl
    · next hnq => exact pollStatus_run hw hs (hop.resolve_left (hu.op ▸ hnq))

include hp

theorem countDiscard_run (hu : Work W s u) (hs : W .seq = true) : Run W s.seq.op s (countDiscard u) := by
  unfold countDiscard
  dsimp only
  split
  · exact (hu.trans (work_seq hs _ u)).runFault .protocolMismatch 2 _
  · exact hu.run hs _ (hu.phase ▸ hp)

include ho

theorem stepQRx_run (hph : s.seq.phase ∈ queryPhases) (hW : ∀ p ∈ phaseWrites .qRx, W p = true) :
    Run W s.seq.op s (stepQRx s) := by
  have hh := hW .history (by decide)
  have hi := hW .ibuf (by decide)
  have hs := hW .seq (by decide)
  unfold stepQRx
  rcases recv_cases .step s.par.timeout s with ⟨bytes, -, -, h⟩ | ⟨-, h⟩ <;> rw [h]
  · have hu := work_read hh hi bytes s.par.timeout s
    dsimp only
    split
    · exact hu.runFault .protocolMismatch 0 _
    · exact hu.runFault .protocolMismatch 1 _
    · exact countDiscard_run hp hu hs
    · exact takeCandidate_run hu hs (hW .status (by decide)) (queryPhases_of_mem hp hph).1
  · exact (work_afterRead hh _ s).runTransportError 2 ho _

omit ho

theorem stepPrep_run (hph : s.seq.phase ∈ passPhases) (hl : s.seq.op ≠ .query → AllWritten s)
    (hW : ∀ p ∈ phaseWrites .prep, W p = true) : Run W s.seq.op s (stepPrep s) := by
  obtain ⟨hop, hmem⟩ := passPhases_of_mem hp hph
  have hs := hW .seq (by decide)
  have hb := hW .blk (by decide)
  have hid : Work W s (insertWriteId s) := work_insertWriteId hb hs (hl hop)
  have hlines : AllWritten (insertWriteId s) := fun k hk => by simpa using hl hop k hk
  exact (hid.trans (work_sealBlock (hW .crc (by decide)) hb hlines)).run hs _ (hmem .bTx (by decide))

/-- After an End response: another response, the next pass, or completion (R380, R385). -/
theorem nextResponse_run (hph : s.seq.phase ∈ passPhases) (hu : Work W s u) (hs : W .seq = true) :
    Run W s.seq.op s (nextResponse u) := by
  obtain ⟨-, hmem⟩ := passPhases_of_mem hp hph
  have htaken : Work W u (takeEndStatus u) := by
    unfold takeEndStatus
    split
    · exact work_recordEndStatus hs (decodedStatus_sane u) u
    · exact work_refl u
  have hw := (hu.trans htaken).trans (work_seq hs { (takeEndStatus u).seq with rxleft := (takeEndStatus u).seq.rxleft - 1 } _)
  unfold nextResponse
  dsimp only
  split
  · split
    · exact hw.run hs _ (hmem .prep (by decide))
    · exact hw.runComplete hs _ (Status.resultCode_cases _) (by simp [Status.bytes]) nofun
  · exact (hu.trans htaken).run hs _ ((hu.trans htaken).phase ▸ hp)

include ho

theorem stepBTx_run (hph : s.seq.phase ∈ passPhases) (hW : ∀ p ∈ phaseWrites .bTx, W p = true) :
    Run W s.seq.op s (stepBTx s) :=
  stepBTx_eq s ▸ sendFrame_run ho hW frameAgrees_longFrame fun _ hw =>
    hw.run (hW .seq (by decide)) _ ((passPhases_of_mem hp hph).2 .bRx (by decide))

theorem stepLTx_run (hph : s.seq.phase ∈ passPhases) (hW : ∀ p ∈ phaseWrites .lTx, W p = true) :
    Run W s.seq.op s (stepLTx s) :=
  stepLTx_eq s ▸ sendFrame_run ho hW frameAgrees_longFrame fun _ hw =>
    hw.run (hW .seq (by decide)) _ ((passPhases_of_mem hp hph).2 .lRx (by decide))

theorem stepETx_run (hph : s.seq.phase ∈ passPhases) (hW : ∀ p ∈ phaseWrites .eTx, W p = true) :
    Run W s.seq.op s (stepETx s) :=
  stepETx_eq s ▸ sendFrame_run ho hW frameAgrees_shortFrame fun _ hw =>
    hw.run (hW .seq (by decide)) _ ((passPhases_of_mem hp hph).2 .eRx (by decide))

theorem stepBRx_run (hph : s.seq.phase ∈ passPhases) (hW : ∀ p ∈ phaseWrites .bRx, W p = true) :
    Run W s.seq.op s (stepBRx s) := by
  obtain ⟨-, hmem⟩ := passPhases_of_mem hp hph
  exact paced_run ho (hW .history (by decide)) (hW .ibuf (by decide)) fun u hu =>
    hu.run (hW .seq (by decide)) _ (hmem .lTx (by decide))

theorem stepLRx_run (hph : s.seq.phase ∈ passPhases) (hW : ∀ p ∈ phaseWrites .lRx, W p = true) :
    Run W s.seq.op s (stepLRx s) := by
  obtain ⟨-, hmem⟩ := passPhases_of_mem hp hph
  refine paced_run ho (hW .history (by decide)) (hW .ibuf (by decide)) fun u hu => hu.run (hW .seq (by decide)) _ ?_
  dsimp only
  split
  · exact hmem .eTx (by decide)
  · exact hmem .lTx (by decide)

theorem stepERx_run (hph : s.seq.phase ∈ passPhases) (hW : ∀ p ∈ phaseWrites .eRx, W p = true) :
    Run W s.seq.op s (stepERx s) :=
  paced_run ho (hW .history (by decide)) (hW .ibuf (by decide)) fun _ hu => nextResponse_run hp hph hu (hW .seq (by decide))

theorem stepQTx_run (hph : s.seq.phase ∈ queryPhases) (hW : ∀ p ∈ phaseWrites .qTx, W p = true) :
    Run W s.seq.op s (stepQTx s) := by
  obtain ⟨-, hmem⟩ := queryPhases_of_mem hp hph
  have hu : Work W s (loadFrame .short (statusFrame s) s) := work_loadFrame (hW .obuf (by decide)) frameAgrees_shortFrame
  exact sendQuery_run ho (hmem .qRx (by decide)) hu (hW .history (by decide)) (hW .seq (by decide))

/-- A step of a sequencer command, from one of the command's phases, goes on in them or ends the command. -/
theorem seqStep_run (hl : s.seq.op ≠ .query → AllWritten s) (hW : ∀ p ∈ phaseWrites s.seq.phase, W p = true) :
    Run W s.seq.op s (seqStep s) := by
  unfold seqStep
  cases hphase : s.seq.phase with
  | idle => exact absurd (hphase ▸ hp) (idle_not_mem_phasesOf _)
  | qTx => exact stepQTx_run ho hp (hphase ▸ by decide) (hphase ▸ hW)
  | qRx => exact stepQRx_run ho hp (hphase ▸ by decide) (hphase ▸ hW)
  | prep => exact stepPrep_run hp (hphase ▸ by decide) hl (hphase ▸ hW)
  | bTx => exact stepBTx_run ho hp (hphase ▸ by decide) (hphase ▸ hW)
  | bRx => exact stepBRx_run ho hp (hphase ▸ by decide) (hphase ▸ hW)
  | lTx => exact stepLTx_run ho hp (hphase ▸ by decide) (hphase ▸ hW)
  | lRx => exact stepLRx_run ho hp (hphase ▸ by decide) (hphase ▸ hW)
  | eTx => exact stepETx_run ho hp (hphase ▸ by decide) (hphase ▸ hW)
  | eRx => exact stepERx_run ho hp (hphase ▸ by decide) (hphase ▸ hW)

end

/-! ## The whole run -/

/-- What follows on a run that goes on is part of the same run. -/
theorem Run.after {op : SeqOp} (h : Run W op u t) (frame : OnlyWrites W s u) (sound : Sound s → Sound u)
    (ses : u.ses = s.ses) : Run W op s t := by
  cases h with
  | goesOn frame' sound' ses' hop hphase =>
    exact .goesOn (frame.trans frame') (sound' ∘ sound) (ses'.trans ses) hop hphase
  | ended idle ends =>
    exact .ended idle
      { ends with
        frame := frame.trans ends.frame
        sound := ends.sound ∘ sound
        fatal := fun hw => by rw [ends.fatal hw, ses]
        idle := fun _ => idle }

/-- Another step of a run that a session started. -/
theorem Run.step {op : SeqOp} (h : Run (runWrites op) op s t) (ho : s.ses.isOpen = true)
    (hl : op ≠ .query → AllWritten s) : Run (runWrites op) op s (seqStep t) := by
  cases h with
  | goesOn frame sound ses hop hphase =>
    subst hop
    have hlines : t.lineValid = s.lineValid := frame .lineValid (runWrites_lineValid _)
    have hnext := seqStep_run (ses ▸ ho) hphase (fun hq k hk => hlines ▸ hl hq k hk) fun p hp => runWrites_of_phase hphase hp
    exact hnext.after frame sound ses
  | ended idle ends =>
    have hstep : seqStep t = t := by simp only [seqStep, idle.2.1]
    exact hstep.symm ▸ .ended idle ends

/-- A sequencer command that answers a next state has ended, idle again (R380, R394). -/
theorem runSequencer_ends {op : SeqOp} (h : runSequencer u = .next t) (hu : Run (runWrites op) op s u)
    (ho : s.ses.isOpen = true) (hl : op ≠ .query → AllWritten s) : Ends (runWrites op) true s t := by
  obtain ⟨k, -, rfl, hidle⟩ := seqRun_next h
  have hrun : Run (runWrites op) op s (seqStep^[k] u) := by
    clear h hidle
    induction k with
    | zero => exact hu
    | succ k ih => exact Function.iterate_succ_apply' seqStep k u ▸ ih.step ho hl
  cases hrun with
  | goesOn _ _ _ _ hphase => exact absurd (hidle ▸ hphase) (idle_not_mem_phasesOf op)
  | ended _ ends => exact ends

/-! ## The starts (R382 to R384) -/

/-- A start writes the sequencer's registers only. -/
theorem run_start (hs : W .seq = true) (q : Sequencer) (hphase : q.phase ∈ phasesOf q.op)
    (hpasses : s.seq.passes = 1 ∨ s.seq.passes = 2 → q.passes = 1 ∨ q.passes = 2)
    (hend1 : s.seq.endSt1.Sane → q.endSt1.Sane) (hend2 : s.seq.endSt2.Sane → q.endSt2.Sane) :
    Run W q.op s { s with seq := q } :=
  have hsound (h : Sound s) : Sound { s with seq := q } :=
    { h with passes := hpasses h.passes, endSt1 := hend1 h.endSt1, endSt2 := hend2 h.endSt2 }
  .goesOn (onlyWrites_seq hs q s) hsound rfl rfl hphase

theorem zero_sane : Status.zero.Sane := fun _ => ⟨rfl, rfl⟩

theorem startQuery_run (s : State) : Run (runWrites .query) .query s (startQuery s) :=
  run_start rfl { s.seq with op := .query, pass := 0, phase := .qTx } List.mem_cons_self id id id

theorem startPass_run (profile widmode wid : Byte) (s : State) :
    Run (runWrites .pass) .pass s (startPass profile widmode wid s) :=
  run_start (s := s) rfl (startPass profile widmode wid s).seq List.mem_cons_self (fun _ => .inl rfl) (fun _ => zero_sane)
    fun _ => zero_sane

theorem startWrite_run (profile : Byte) (s : State) : Run (runWrites .write) .write s (startWrite profile s) := by
  refine run_start (s := s) rfl (startWrite profile s).seq ?_ (fun _ => .inr rfl) (fun _ => zero_sane) fun _ => zero_sane
  simp only [startWrite]
  split <;> decide

/-- The query's start with a frame of the host sent in Q_TX's place (R255). -/
theorem sendQuery_startQuery_run (ho : s.ses.isOpen = true) :
    Run (runWrites .query) .query s (sendQuery (startQuery s)) := by
  cases startQuery_run s with
  | goesOn frame sound ses _ _ =>
    have hsend : Run (runWrites .query) .query (startQuery s) (sendQuery (startQuery s)) :=
      sendQuery_run (s := startQuery s) ho (show .qRx ∈ queryPhases by decide) (work_refl _) rfl rfl
    exact hsend.after frame sound ses
  | ended idle _ => cases idle.2.1

end

end Sys2Proof.Machine
end

section
/-! Every instruction meets the contract `Ends`: the commands, the frames made of them, and `exec`. The invariant of
the block, the writers of each piece of state and the form of the results follow from it. -/

namespace Sys2Proof.Machine

open Sys2Proof.Statements

section
variable {W : Piece → Bool} {rej : Bool} {s t : State}

/-! ## Session commands (R420, R421) -/

/-- A session command writes the session registers whole. -/
theorem ends_session (hw : W .session = true) (ses : Session) (free : Nat)
    (hses : SessionSane { s with ses := ses, free := free }) :
    Ends W rej s (finish .ok [] { s with ses := ses, free := free }) where
  frame := by
    refine OnlyWrites.trans (fun p hp => ?_) (onlyWrites_finish _ _ _)
    cases p with
    | session => cases hw.symm.trans hp
    | _ => simp [Piece.Same]
  sound h := Sound.finish (s := { s with ses := ses, free := free }) { h with session := hses } (Nat.zero_le _)
  fatal hp := by cases hw.symm.trans hp
  idle h := h
  result := formed_ok (Nat.zero_le _)

theorem lowNibble_ne_zero {b : Byte} (hle : b.toNat ≤ 15) (hb : b ≠ 0) : lowNibble b ≠ 0 := by
  intro h
  have hmod := congrArg BitVec.toNat h
  rw [lowNibble, BitVec.extractLsb'_toNat] at hmod
  refine hb (BitVec.eq_of_toNat_eq ?_)
  simpa [Nat.mod_eq_of_lt (show b.toNat < 16 by omega)] using hmod

theorem properCheck_sessionOpenChecks (swid : Byte) : ∀ c ∈ sessionOpenChecks swid s, ProperCheck s c := by
  simp only [sessionOpenChecks, List.forall_mem_cons]
  exact ⟨properCheck_check _ _ _, properCheck_check _ _ _, properCheck_check _ _ _, nofun⟩

/-- An opened session's software id is 1..15, by the checks (R36, R420). -/
theorem sessionOpen_ends (hw : W .session = true) {ifnum epIn epOut swid : Byte}
    (h : execSessionOpen ifnum epIn epOut swid s = .next t) : Ends W rej s t := by
  refine guarded_ends h (properCheck_sessionOpenChecks swid) fun hpass ht => ?_
  have hnone := eq_none_of_firstFailing hpass
  simp only [sessionOpenChecks, List.forall_mem_cons, check_eq_none, decide_eq_false_iff_not] at hnone
  obtain ⟨-, hle, hne, -⟩ := hnone
  cases ht
  exact ends_session hw _ s.free ⟨nofun, fun _ => lowNibble_ne_zero (by omega) hne⟩

theorem sessionClose_ends (hw : W .session = true) (h : execSessionClose s = .next t) : Ends W rej s t := by
  cases h
  exact ends_session hw _ _ ⟨nofun, nofun⟩

/-! ## Codec and transport commands (R200 to R205) -/

theorem buildShort_ends (ho : W .obuf = true) {dev feat fn sw a b c : Byte}
    (h : buildShort dev feat fn sw a b c s = .next t) : Ends W rej s t := by
  refine guarded_ends h (properCheck_encoderChecks fn sw) fun _ hb => ?_
  cases hb
  exact (work_loadFrame ho frameAgrees_shortFrame).endsOk (Nat.zero_le _)

theorem buildLong_ends (ho : W .obuf = true) {dev feat fn sw : Byte} {payload : Payload}
    (h : buildLong dev feat fn sw payload s = .next t) : Ends W rej s t := by
  refine guarded_ends h (properCheck_encoderChecks fn sw) fun _ hb => ?_
  cases hb
  exact (work_loadFrame ho frameAgrees_longFrame).endsOk (Nat.zero_le _)

theorem decStatus_ends (hw : W .status = true) (h : execDecStatus s = .next t) : Ends W rej s t := by
  cases h
  exact (work_status hw (decodedStatus_sane s) s).endsOk (by simp [Status.bytes])

theorem transmit_ends (hh : W .history = true) (h : transmit s = .next t) : Ends W rej s t := by
  refine guarded_ends h (properCheck_transportChecks (List.forall_mem_singleton.mpr (properCheck_check _ _ _)))
    fun hpass hb => ?_
  have ho := (open_of_transportChecks hpass).1
  rcases send_cases .outside s with ⟨-, hs⟩ | ⟨-, hs⟩ <;> rw [hs] at hb <;> cases hb
  · exact (work_afterWrite hh s).endsOk (Nat.zero_le _)
  · exact (work_afterWrite hh s).endsTransportError _ _ ho

/-- The checks of XFER_RECV (R205). -/
theorem properCheck_receive (tsel : Byte) :
    ∀ c ∈ transportChecks s ++ [check (1 < tsel.toNat) .badOperand 1], ProperCheck s c :=
  properCheck_transportChecks (List.forall_mem_singleton.mpr (properCheck_check _ _ _))

theorem receive_ends (hh : W .history = true) (hi : W .ibuf = true) {tsel : Byte} (h : receive tsel s = .next t) :
    Ends W rej s t := by
  refine guarded_ends h (properCheck_receive tsel) fun hpass hb => ?_
  have ho := (open_of_transportChecks hpass).1
  rcases recv_cases .outside (timeoutOf tsel s.par) s with ⟨bytes, -, -, hr⟩ | ⟨-, hr⟩ <;> rw [hr] at hb <;> cases hb
  · exact (work_read hh hi bytes _ s).endsOk (by simp)
  · exact (work_afterRead hh _ s).endsTransportError _ _ ho

/-- A read that ended with OK was made in an open session (R512). -/
theorem open_of_receive_ok {tsel : Byte} (h : receive tsel s = .next t) (hok : t.res.code = .ok) :
    t.ses.isOpen = true := by
  unfold receive at h
  rcases guarded_cases _ s _ with ⟨hpass, he⟩ | ⟨code, aux, hfail, he⟩ <;> rw [he] at h
  · have ho := (open_of_transportChecks hpass).1
    rcases recv_cases .outside (timeoutOf tsel s.par) s with ⟨bytes, -, -, hr⟩ | ⟨-, hr⟩ <;> rw [hr] at h <;> cases h <;>
      exact ho
  · cases h
    exact absurd hok (properCheck_receive tsel _ (firstFailing_mem hfail) code aux rfl).1.1

theorem readResponses_ends (hh : W .history = true) (hi : W .ibuf = true) {n : Nat} (hok : s.res.code = .ok)
    (hr : s.res.Formed rej) (h : readResponses n s = .next t) : Ends W rej s t := by
  induction n generalizing s with
  | zero => cases h; exact ends_refl hok hr
  | succ n ih =>
    refine andThen_ends h (fun u hu => receive_ends hh hi hu) fun u _ huok hur ht => ?_
    split at ht
    · cases ht; exact ends_refl huok hur
    · exact ih huok hur ht

theorem requireResponse_ends (hh : W .history = true) (hi : W .ibuf = true) (h : requireResponse s = .next t) :
    Ends W rej s t := by
  refine andThen_ends h (fun u hu => receive_ends hh hi hu) fun u hu huok hur ht => ?_
  have ho := open_of_receive_ok hu huok
  cases ht
  split
  · exact (work_refl u).endsTransportError _ _ ho
  · exact ends_refl huok hur

/-! ## Checksum and block commands (R300 to R303, R340 to R342) -/

theorem crcBlock_ends (hc : W .crc = true) (hb : W .blk = true) (h : execCrcBlock s = .next t) : Ends W rej s t := by
  refine guarded_ends h (List.forall_mem_singleton.mpr properCheck_complete) fun hpass ht => ?_
  have hl : AllWritten s := allWritten_of_completeCheck (eq_none_of_firstFailing hpass _ (by simp))
  cases ht
  exact (work_sealBlock hc hb hl).endsOk (by simp [halfBytes])

theorem getLsbD_markLine (valid : BitVec 16) {line : Nat} (h : line < 16) (k : Nat) :
    (markLine valid line).getLsbD k = (valid.getLsbD k || decide (k = line)) := by
  unfold markLine
  rw [BitVec.getLsbD_or, BitVec.getLsbD_shiftLeft, BitVec.getLsbD_one]
  by_cases hk : k = line
  · simp [hk, h]
  · simp [hk]
    omega

/-- A line's bytes lie in the line, which is marked; every other listed byte was listed before (R340). -/
theorem onlyWrittenLines_writeLine (h : OnlyWrittenLines s) {line : Byte} (hline : line.toNat ≤ 15) (data : Payload) :
    OnlyWrittenLines
      { s with
        blk := s.blk.writeBytes (16 * line.toNat) data.toList
        lineValid := markLine s.lineValid line.toNat } := by
  intro cell hc
  show (markLine s.lineValid line.toNat).getLsbD (cell.1 / 16) = true
  rw [getLsbD_markLine _ (by omega)]
  rcases Memory.mem_writeBytes hc with ⟨hlo, hhi⟩ | hold
  · have hk : cell.1 / 16 = line.toNat := by
      rw [Vector.length_toList] at hhi
      omega
    simp [hk]
  · simp [h cell hold]

theorem blkWrite_ends (hb : W .blk = true) (hv : W .lineValid = true) {line : Byte} {data : Payload}
    (h : execBlkWrite line data s = .next t) : Ends W rej s t := by
  refine guarded_ends h (List.forall_mem_singleton.mpr (properCheck_check _ _ _)) fun hpass ht => ?_
  have hline : line.toNat ≤ 15 := by
    have hnone := eq_none_of_firstFailing hpass _ List.mem_cons_self
    simpa [lineCheck, check_eq_none] using hnone
  have hlen : 16 * line.toNat + data.toList.length ≤ 256 := by simp; omega
  cases ht
  exact (work_blk hb (.inl hv) (Memory.wf_writeBytes · _ _ hlen) fun _ hwr =>
    onlyWrittenLines_writeLine hwr hline data).endsOk (Nat.zero_le _)

theorem blkRead_ends {line : Byte} (h : execBlkRead line s = .next t) : Ends W rej s t := by
  have hchecks : ∀ c ∈ [lineCheck line, lineWrittenCheck line s], ProperCheck s c :=
    List.forall_mem_cons.mpr ⟨properCheck_check _ _ _, List.forall_mem_singleton.mpr (properCheck_check _ _ _)⟩
  refine guarded_ends h hchecks fun _ ht => ?_
  cases ht
  exact (work_refl s).endsOk (by simp)

theorem blkBuild_ends (hb : W .blk = true) (hv : W .lineValid = true) {poll : Byte} {d0 d1 d2 d3 d4 : Half}
    {profile : Byte} (h : execBlkBuild poll d0 d1 d2 d3 d4 profile s = .next t) : Ends W rej s t := by
  have hchecks : ∀ c ∈ buildChecks poll profile, ProperCheck s c :=
    List.forall_mem_cons.mpr ⟨properCheck_check _ _ _, List.forall_mem_singleton.mpr (properCheck_check _ _ _)⟩
  refine guarded_ends h hchecks fun _ ht => ?_
  have hwf (hs : s.blk.wf) := wf_builtBlock hs s.par poll d0 d1 d2 d3 d4 profile
  have hfull : ∀ k, k < 16 → (0xFFFF : BitVec 16).getLsbD k = true := by decide
  have hl : AllWritten { s with lineValid := 0xFFFF } := hfull
  cases ht
  exact (work_blk hb (.inl hv) hwf fun hs _ => hl.only (hwf hs)).endsOk (Nat.zero_le _)

/-! ## Sequencer commands (R382 to R384) -/

theorem seqQueryStatus_ends (h : execSeqQueryStatus s = .next t) : Ends (runWrites .query) true s t := by
  refine guarded_ends h (properCheck_transportChecks (rest := []) nofun) fun hpass hb => ?_
  obtain ⟨ho, -, -⟩ := open_of_transportChecks (rest := []) hpass
  exact runSequencer_ends hb (startQuery_run s) ho (absurd rfl)

theorem seqRecordPass_ends {profile widmode wid : Byte} (h : execSeqRecordPass profile widmode wid s = .next t) :
    Ends (runWrites .pass) true s t := by
  have hchecks := properCheck_transportChecks (s := s) (rest := [check (1 < widmode.toNat) .badOperand 2, completeCheck s])
    (List.forall_mem_cons.mpr ⟨properCheck_check _ _ _, List.forall_mem_singleton.mpr properCheck_complete⟩)
  refine guarded_ends h hchecks fun hpass hb => ?_
  obtain ⟨ho, -, hrest⟩ := open_of_transportChecks hpass
  have hl : AllWritten s := allWritten_of_completeCheck (eq_none_of_firstFailing hrest _ (by simp))
  exact runSequencer_ends hb (startPass_run profile widmode wid s) ho fun _ => hl

theorem seqWriteConfig_ends {profile : Byte} (h : execSeqWriteConfig profile s = .next t) :
    Ends (runWrites .write) true s t := by
  have hchecks := properCheck_transportChecks (s := s) (List.forall_mem_singleton.mpr properCheck_complete)
  refine guarded_ends h hchecks fun hpass hb => ?_
  obtain ⟨ho, -, hrest⟩ := open_of_transportChecks hpass
  have hl : AllWritten s := allWritten_of_completeCheck (eq_none_of_firstFailing hrest _ (by simp))
  exact runSequencer_ends hb (startWrite_run profile s) ho fun _ => hl

/-! ## Wire frames (R250 to R261) -/

theorem emitShort_ends (ho : W .obuf = true) (hh : W .history = true) {fn sw : Nibble} {dev feat a b c : Byte}
    (h : emitShort fn dev feat sw a b c s = .next t) : Ends W rej s t :=
  andThen_ends h (fun _ hu => buildShort_ends ho hu) fun _ _ _ _ ht => transmit_ends hh ht

theorem emitLong_ends (ho : W .obuf = true) (hh : W .history = true) {fn sw : Nibble} {dev feat : Byte}
    {payload : Payload} (h : emitLong fn dev feat sw payload s = .next t) : Ends W rej s t :=
  andThen_ends h (fun _ hu => buildLong_ends ho hu) fun _ _ _ _ ht => transmit_ends hh ht

theorem statusShort_ends {dev feat a b c : Byte} {sw : Nibble} (h : execStatusShort dev feat sw a b c s = .next t) :
    Ends (runWrites .query) true s t := by
  refine andThen_ends h (fun u hu => buildShort_ends rfl hu) fun u _ _ _ ht => ?_
  refine guarded_ends ht (properCheck_transportChecks (rest := []) nofun) fun hpass hb => ?_
  obtain ⟨ho, -, -⟩ := open_of_transportChecks (rest := []) hpass
  exact runSequencer_ends hb (sendQuery_startQuery_run ho) ho (absurd rfl)

/-- The three End responses: the first one's status is recorded and reported (R259). -/
theorem endResponses_ends (hh : W .history = true) (hi : W .ibuf = true) (hs : W .seq = true)
    (h : endResponses s = .next t) : Ends W true s t := by
  refine andThen_ends h (fun _ hu => requireResponse_ends hh hi hu) fun first _ _ _ h2 => ?_
  refine (work_recordEndStatus hs (decodedStatus_sane first) first).ends ?_
  refine andThen_ends h2 (fun _ hu => requireResponse_ends hh hi hu) fun second _ _ _ h3 => ?_
  refine andThen_ends h3 (fun _ hu => requireResponse_ends hh hi hu) fun third _ _ _ ht => ?_
  cases ht
  exact (work_refl third).endsWith (Status.resultCode_cases _)
    (formed_reported (Status.resultCode_cases _) (by simp [Status.bytes]) nofun)

/-! ## Every instruction -/

/-- The writers of each piece of state, as the obligations name them (R59). -/
def writtenBy (i : Instr) : Piece → Bool
  | .session => writesSession i
  | .obuf => writesObuf i
  | .ibuf => writesIbuf i
  | .crc => writesCrc i
  | .blk => writesBlk i
  | .lineValid => writesLineValid i
  | .status => writesStatus i
  | .seq => writesSeq i
  | .history => usesTransport i

theorem Ends.congr {W' : Piece → Bool} (h : Ends W rej s t) (hW : ∀ p, W p = W' p) : Ends W' rej s t :=
  (funext hW : W = W') ▸ h

/-- What an instruction leaves: it writes only the pieces the access summary gives it, and its result is in form. -/
theorem exec_ends {i : Instr} (h : exec i s = .next t) : Ends (writtenBy i) (mayBeRejected i) s t := by
  cases i with
  | sessionOpen => exact sessionOpen_ends rfl h
  | sessionClose => exact sessionClose_ends rfl h
  | encShort => exact buildShort_ends rfl h
  | encLong => exact buildLong_ends rfl h
  | decStatus => exact decStatus_ends rfl h
  | classify => cases h; exact (work_refl s).endsOk (by simp)
  | xferSend => exact transmit_ends rfl h
  | xferRecv => exact receive_ends rfl rfl h
  | crcInit | crcUpdate => cases h; exact (work_crc rfl _ s).endsOk (Nat.zero_le _)
  | crcBlock => exact crcBlock_ends rfl rfl h
  | crcRead => cases h; exact (work_refl s).endsOk (by simp [halfBytes])
  | blkWrite => exact blkWrite_ends rfl rfl h
  | blkRead => exact blkRead_ends h
  | blkBuild => exact blkBuild_ends rfl rfl h
  | seqQueryStatus => exact (seqQueryStatus_ends h).congr fun p => by cases p <;> rfl
  | seqRecordPass => exact (seqRecordPass_ends h).congr fun p => by cases p <;> rfl
  | seqWriteConfig => exact (seqWriteConfig_ends h).congr fun p => by cases p <;> rfl
  | statusShort => exact (statusShort_ends h).congr fun p => by cases p <;> rfl
  | profileSwitchShort =>
    exact andThen_ends h (fun _ hu => emitShort_ends rfl rfl hu) fun _ _ hok hr ht => readResponses_ends rfl rfl hok hr ht
  | setColorLong =>
    exact andThen_ends h (fun _ hu => emitLong_ends rfl rfl hu) fun _ _ hok hr ht => readResponses_ends rfl rfl hok hr ht
  | startRecordLong | writeRecordLong =>
    exact andThen_ends h (fun _ hu => emitLong_ends rfl rfl hu) fun _ _ _ _ ht => requireResponse_ends rfl rfl ht
  | endRecordShort =>
    exact andThen_ends h (fun _ hu => emitShort_ends rfl rfl hu) fun _ _ _ _ ht => endResponses_ends rfl rfl rfl ht
  | rootShort | getFeatureShort | connCheckShort | readRecordShort | startRecordShort | writeRecordShort | errBShort
  | errCShort => exact emitShort_ends rfl rfl h
  | rootLong | getFeatureLong | connCheckLong | statusLong | readRecordLong | endRecordLong | errBLong | errCLong =>
    exact emitLong_ends rfl rfl h

end

/-- Settles O46: the frame clauses of `exec_ends`, piece by piece; SES_FATAL changes only with TRANSPORT_ERROR. -/
theorem whoWritesWhat : Obligations.WhoWritesWhat := by
  intro i s t hi h
  have he := exec_ends h
  refine ⟨fun hw => ⟨he.frame .session hw, fun hne => ?_⟩, he.frame .obuf, he.frame .ibuf, he.frame .crc, he.frame .blk,
    he.frame .lineValid, he.frame .status, fun hw => he.frame .seq hw hi, he.frame .history⟩
  by_contra hcode
  exact hne (by simpa [hcode] using he.fatal hw)

/-- No instruction that may report DEVICE_REJECTED writes the session. -/
theorem writesSession_of_mayBeRejected {i : Instr} (h : mayBeRejected i = true) : writesSession i = false := by
  cases i with
  | sessionOpen | sessionClose => cases h
  | _ => rfl

/-- Settles O48: the result clause of `exec_ends`; SES_FATAL is as before because the code is not TRANSPORT_ERROR. -/
theorem resultRegisters : Obligations.ResultRegisters := by
  intro i s t h
  have he := exec_ends h
  refine ⟨he.result.info, fun hok hrej => he.result.noData ⟨hok, hrej⟩, he.result.length, fun hcode => ?_⟩
  obtain ⟨hrej, hdata⟩ := he.result.rejected hcode
  exact ⟨hrej, by simpa [hcode] using he.fatal (writesSession_of_mayBeRejected hrej), hdata⟩

/-! ## The invariant -/

/-- An instruction's end keeps the invariant. -/
theorem Ends.inv {W : Piece → Bool} {rej : Bool} {s t : State} (h : Ends W rej s t) (hs : Inv s) : Inv t :=
  (h.sound hs.sound).inv (h.idle hs.idle)

/-- Bytes that are no instruction end with a raise that leaves SES_FATAL alone (R503, R506, R507). -/
theorem reject_ends {W : Piece → Bool} {rej : Bool} {e : DecodeError} {s t : State} (h : reject e s = .next t) :
    Ends W rej s t := by
  cases e with
  | emptyCommand | illegalCommand | badLength | reservedFunction => cases h; exact (work_refl s).endsFault _ _ _
  | notAFrame => cases h

theorem advance_next {s t : State} {answer : Outcome} (h : advance s answer = .next t) :
    ∃ u, answer = .next u ∧ t = { u with pos := s.pos + 1 } := by
  cases answer with
  | next u => cases h; exact ⟨u, rfl, rfl⟩
  | fault => cases h
  | refused => cases h

/-- Everything a step can do: move the host alone, or run an instruction or a rejection and then move the host. -/
theorem step_cases {s t : State} (h : step s = .next t) :
    ∃ u pos, t = { u with pos := pos } ∧ (u = s ∨ (∃ i, exec i s = .next u) ∨ ∃ e, reject e s = .next u) := by
  unfold step at h
  split at h
  · cases h; exact ⟨s, s.pos, rfl, .inl rfl⟩
  · cases h; exact ⟨s, s.pos, rfl, .inl rfl⟩
  · cases h; exact ⟨s, _, rfl, .inl rfl⟩
  · cases h; exact ⟨s, _, rfl, .inl rfl⟩
  · split at h <;> obtain ⟨u, hu, rfl⟩ := advance_next h
    · exact ⟨u, _, rfl, .inr (.inl ⟨_, hu⟩)⟩
    · exact ⟨u, _, rfl, .inr (.inr ⟨_, hu⟩)⟩
  · split at h <;> obtain ⟨u, hu, rfl⟩ := advance_next h
    · exact ⟨u, _, rfl, .inr (.inl ⟨_, hu⟩)⟩
    · exact ⟨u, _, rfl, .inr (.inr ⟨_, hu⟩)⟩

/-- Settles O13: the host's moves touch no register, and the end of every instruction and of every rejection keeps
`Inv`. -/
theorem stepKeepsInvariant : Obligations.StepKeepsInvariant := by
  intro s t hs h
  obtain ⟨u, pos, rfl, rfl | ⟨i, hu⟩ | ⟨e, hu⟩⟩ := step_cases h
  · exact hs.movePos pos
  · exact ((exec_ends hu).inv hs).movePos pos
  · exact ((reject_ends (W := fun _ => false) (rej := false) hu).inv hs).movePos pos

end Sys2Proof.Machine
end

section
/-! What no command takes back. `Grows` says that the history only gets longer, that a written line stays written, and
that the model's own parameters, program and position stay (R92, R95, R42). Each operation of the model grows its state,
and a command grows it because its parts do. -/

namespace Sys2Proof.Machine

/-- `t` is a later state than `s`. A field that is not given is the same in both states. -/
structure Grows (s t : State) : Prop where
  history : s.history <+: t.history := by exact List.prefix_refl _
  lines   : ∀ k, s.lineValid.getLsbD k = true → t.lineValid.getLsbD k = true := by exact fun _ => id
  par     : t.par = s.par := by rfl
  prog    : t.prog = s.prog := by rfl
  pos     : t.pos = s.pos := by rfl

/-- If an outcome is a next state, that state is later than `s`. -/
def AnswerGrows (s : State) (answer : Outcome) : Prop := ∀ t, answer = .next t → Grows s t

section
variable {s t u : State}

theorem Grows.trans (h : Grows s t) (h' : Grows t u) : Grows s u where
  history := h.history.trans h'.history
  lines k := h'.lines k ∘ h.lines k
  par := h'.par.trans h.par
  prog := h'.prog.trans h.prog
  pos := h'.pos.trans h.pos

/-! ## The operations -/

theorem Grows.raise (h : Grows s u) (site : RaiseSite) (code : ResultCode) (aux : Byte) :
    Grows s (raise site code aux u) := h.trans {}

theorem Grows.finish (h : Grows s u) (code : ResultCode) (data : List Byte) : Grows s (finish code data u) := h.trans {}

theorem Grows.setSeq (h : Grows s u) (q : Sequencer) : Grows s { u with seq := q } := h.trans {}

theorem grows_afterWrite (s : State) : Grows s (afterWrite s) where
  history := List.prefix_append _ _

theorem grows_afterRead (timeout : Nat) (s : State) : Grows s (afterRead timeout s) where
  history := List.prefix_append _ _

theorem grows_read (bytes : List Byte) (timeout : Nat) (s : State) :
    Grows s (storeInbound bytes (afterRead timeout s)) :=
  (grows_afterRead timeout s).trans {}

theorem grows_recordEndStatus (st : Status) (s : State) : Grows s (recordEndStatus st s) :=
  recordEndStatus_eq st s ▸ {}

theorem grows_insertWriteId (s : State) : Grows s (insertWriteId s) := by
  constructor <;> simp

theorem grows_sealBlock (s : State) : Grows s (sealBlock s) := by
  constructor <;> simp

/-- A write to BLK and LINE_VALID that keeps the written lines. -/
theorem grows_blk (blk : Memory) {valid : BitVec 16}
    (hlines : ∀ k, s.lineValid.getLsbD k = true → valid.getLsbD k = true) :
    Grows s { s with blk := blk, lineValid := valid } where
  lines := hlines

theorem getLsbD_markLine_of_getLsbD {valid : BitVec 16} {k : Nat} (h : valid.getLsbD k = true) (line : Nat) :
    (markLine valid line).getLsbD k = true := by
  simp [markLine, h]

/-! ## Answers -/

theorem answerGrows_next (h : Grows s t) : AnswerGrows s (.next t) := by
  rintro _ ⟨⟩
  exact h

theorem Grows.answer (h : Grows s u) {answer : Outcome} (ha : AnswerGrows u answer) : AnswerGrows s answer :=
  fun t ht => h.trans (ha t ht)

/-- A refusal keeps everything, so an admission grows the state if its body does (R513). -/
theorem guarded_grows {checks : List Check} {body : State → Outcome} (hb : AnswerGrows s (body s)) :
    AnswerGrows s (guarded checks s body) := by
  rcases guarded_cases checks s body with ⟨-, he⟩ | ⟨code, aux, -, he⟩ <;> rw [he]
  · exact hb
  · exact answerGrows_next {}

theorem andThen_grows {first : Outcome} {second : State → Outcome} (h1 : AnswerGrows s first)
    (h2 : ∀ u, AnswerGrows u (second u)) : AnswerGrows s (andThen first second) := by
  intro t ht
  obtain ⟨u, hu, ⟨-, rfl⟩ | ⟨-, hsecond⟩⟩ := andThen_next ht
  · exact h1 u hu
  · exact (h1 u hu).trans (h2 u t hsecond)

/-! ## The sequencer's steps (R380) -/

theorem sendThen_grows (hu : Grows s u) {use : State → State} (huse : ∀ v, Grows v (use v)) :
    Grows s (sendThen use u) := by
  have hw : Grows s (afterWrite u) := hu.trans (grows_afterWrite u)
  unfold sendThen
  rcases send_cases .step u with ⟨-, h⟩ | ⟨-, h⟩ <;> rw [h]
  · exact hw.trans (huse _)
  · exact hw.raise _ _ _

theorem paced_grows {use : State → State} (huse : ∀ v, Grows v (use v)) (s : State) : Grows s (paced use s) := by
  rcases paced_cases use s with ⟨bytes, -, -, -, h⟩ | ⟨-, h⟩ | ⟨-, h⟩ <;> rw [h]
  · exact (grows_read bytes _ s).trans (huse _)
  · exact (grows_read [] _ s).raise _ _ _
  · exact (grows_afterRead _ s).raise _ _ _

theorem sendQuery_grows (hu : Grows s u) : Grows s (sendQuery u) :=
  sendQuery_eq u ▸ sendThen_grows (hu.setSeq _) fun _ => {}

theorem pollStatus_grows (hu : Grows s u) : Grows s (pollStatus u) := by
  unfold pollStatus
  dsimp only
  split
  · exact hu.setSeq _
  · split
    · exact (hu.setSeq _).raise _ _ _
    · exact hu.setSeq _

theorem countDiscard_grows (hu : Grows s u) : Grows s (countDiscard u) := by
  unfold countDiscard
  dsimp only
  split
  · exact (hu.setSeq _).raise _ _ _
  · exact hu.setSeq _

theorem takeCandidate_grows (hu : Grows s u) : Grows s (takeCandidate u) := by
  unfold takeCandidate
  split
  · exact hu.raise _ _ _
  · have hst : Grows s { u with st := ⟨true, u.ibuf[4], u.ibuf[5]⟩ } := hu.trans {}
    dsimp only
    split
    · exact (hst.finish _ _).setSeq _
    · exact pollStatus_grows hst

theorem stepQRx_grows (s : State) : Grows s (stepQRx s) := by
  unfold stepQRx
  rcases recv_cases .step s.par.timeout s with ⟨bytes, -, -, h⟩ | ⟨-, h⟩ <;> rw [h]
  · have hu := grows_read bytes s.par.timeout s
    dsimp only
    split
    · exact hu.raise _ _ _
    · exact hu.raise _ _ _
    · exact countDiscard_grows hu
    · exact takeCandidate_grows hu
  · exact (grows_afterRead _ s).raise _ _ _

theorem stepPrep_grows (s : State) : Grows s (stepPrep s) :=
  ((grows_insertWriteId s).trans (grows_sealBlock _)).setSeq _

theorem nextResponse_grows (s : State) : Grows s (nextResponse s) := by
  have htaken : Grows s (takeEndStatus s) := by
    unfold takeEndStatus
    split
    · exact grows_recordEndStatus _ s
    · exact {}
  unfold nextResponse
  dsimp only
  split
  · split
    · exact htaken.setSeq _
    · exact ((htaken.setSeq _).finish _ _).setSeq _
  · exact htaken.setSeq _

theorem seqStep_grows (s : State) : Grows s (seqStep s) := by
  unfold seqStep
  cases s.seq.phase with
  | idle => exact {}
  | qTx => exact sendQuery_grows {}
  | qRx => exact stepQRx_grows s
  | prep => exact stepPrep_grows s
  | bTx => exact stepBTx_eq s ▸ sendThen_grows {} fun _ => {}
  | bRx => exact paced_grows (fun _ => {}) s
  | lTx => exact stepLTx_eq s ▸ sendThen_grows {} fun _ => {}
  | lRx => exact paced_grows (fun _ => {}) s
  | eTx => exact stepETx_eq s ▸ sendThen_grows {} fun _ => {}
  | eRx => exact paced_grows nextResponse_grows s

theorem runSequencer_grows (hu : Grows s u) : AnswerGrows s (runSequencer u) := by
  intro t ht
  obtain ⟨k, -, rfl, -⟩ := seqRun_next ht
  exact Function.Iterate.rec (Grows s) hu (fun v hv => hv.trans (seqStep_grows v)) k

/-! ## The commands and the frames made of them -/

theorem sessionOpen_grows (ifnum epIn epOut swid : Byte) (s : State) :
    AnswerGrows s (execSessionOpen ifnum epIn epOut swid s) := guarded_grows (answerGrows_next {})

theorem crcBlock_grows (s : State) : AnswerGrows s (execCrcBlock s) :=
  guarded_grows (answerGrows_next ((grows_sealBlock s).finish _ _))

theorem blkRead_grows (line : Byte) (s : State) : AnswerGrows s (execBlkRead line s) :=
  guarded_grows (answerGrows_next {})

theorem blkWrite_grows (line : Byte) (data : Payload) (s : State) : AnswerGrows s (execBlkWrite line data s) :=
  guarded_grows (answerGrows_next ((grows_blk _ fun _ h => getLsbD_markLine_of_getLsbD h _).finish _ _))

theorem blkBuild_grows (poll : Byte) (d0 d1 d2 d3 d4 : Half) (profile : Byte) (s : State) :
    AnswerGrows s (execBlkBuild poll d0 d1 d2 d3 d4 profile s) := by
  have hfull (k : Nat) (h : s.lineValid.getLsbD k = true) : (0xFFFF : BitVec 16).getLsbD k = true := by
    have hall : (0xFFFF : BitVec 16) = BitVec.allOnes 16 := rfl
    rw [hall, BitVec.getLsbD_allOnes]
    exact decide_eq_true (BitVec.lt_of_getLsbD h)
  exact guarded_grows (answerGrows_next ((grows_blk _ hfull).finish _ _))

theorem buildShort_grows (dev feat fn sw a b c : Byte) (s : State) :
    AnswerGrows s (buildShort dev feat fn sw a b c s) := guarded_grows (answerGrows_next {})

theorem buildLong_grows (dev feat fn sw : Byte) (payload : Payload) (s : State) :
    AnswerGrows s (buildLong dev feat fn sw payload s) := guarded_grows (answerGrows_next {})

theorem transmit_grows (s : State) : AnswerGrows s (transmit s) := by
  refine guarded_grows ?_
  rcases send_cases .outside s with ⟨-, h⟩ | ⟨-, h⟩ <;> rw [h]
  · exact answerGrows_next ((grows_afterWrite s).finish _ _)
  · exact answerGrows_next ((grows_afterWrite s).raise _ _ _)

theorem receive_grows (tsel : Byte) (s : State) : AnswerGrows s (receive tsel s) := by
  refine guarded_grows ?_
  rcases recv_cases .outside (timeoutOf tsel s.par) s with ⟨bytes, -, -, h⟩ | ⟨-, h⟩ <;> rw [h]
  · exact answerGrows_next ((grows_read bytes _ s).finish _ _)
  · exact answerGrows_next ((grows_afterRead _ s).raise _ _ _)

theorem readResponses_grows (n : Nat) (s : State) : AnswerGrows s (readResponses n s) := by
  induction n generalizing s with
  | zero => exact answerGrows_next {}
  | succ n ih =>
    refine andThen_grows (receive_grows 0 s) fun u => ?_
    split
    · exact answerGrows_next {}
    · exact ih u

theorem requireResponse_grows (s : State) : AnswerGrows s (requireResponse s) := by
  refine andThen_grows (receive_grows 0 s) fun u => answerGrows_next ?_
  split <;> exact {}

theorem seqQueryStatus_grows (s : State) : AnswerGrows s (execSeqQueryStatus s) :=
  guarded_grows (runSequencer_grows {})

theorem seqRecordPass_grows (profile widmode wid : Byte) (s : State) :
    AnswerGrows s (execSeqRecordPass profile widmode wid s) := guarded_grows (runSequencer_grows {})

theorem seqWriteConfig_grows (profile : Byte) (s : State) : AnswerGrows s (execSeqWriteConfig profile s) :=
  guarded_grows (runSequencer_grows {})

theorem emitShort_grows (fn : Nibble) (dev feat : Byte) (sw : Nibble) (a b c : Byte) (s : State) :
    AnswerGrows s (emitShort fn dev feat sw a b c s) :=
  andThen_grows (buildShort_grows _ _ _ _ _ _ _ s) transmit_grows

theorem emitLong_grows (fn : Nibble) (dev feat : Byte) (sw : Nibble) (payload : Payload) (s : State) :
    AnswerGrows s (emitLong fn dev feat sw payload s) :=
  andThen_grows (buildLong_grows _ _ _ _ _ s) transmit_grows

theorem statusShort_grows (dev feat : Byte) (sw : Nibble) (a b c : Byte) (s : State) :
    AnswerGrows s (execStatusShort dev feat sw a b c s) :=
  andThen_grows (buildShort_grows _ _ _ _ _ _ _ s) fun u =>
    guarded_grows (runSequencer_grows (sendQuery_grows (u := startQuery u) {}))

theorem endResponses_grows (s : State) : AnswerGrows s (endResponses s) :=
  andThen_grows (requireResponse_grows s) fun first =>
    (grows_recordEndStatus _ first).answer
      (andThen_grows (requireResponse_grows _) fun second =>
        andThen_grows (requireResponse_grows second) fun _ => answerGrows_next {})

/-! ## Every instruction -/

theorem exec_grows (i : Instr) (s : State) : AnswerGrows s (exec i s) := by
  cases i with
  | sessionOpen => exact sessionOpen_grows _ _ _ _ s
  | sessionClose | decStatus | classify | crcInit | crcUpdate | crcRead => exact answerGrows_next {}
  | encShort => exact buildShort_grows _ _ _ _ _ _ _ s
  | encLong => exact buildLong_grows _ _ _ _ _ s
  | xferSend => exact transmit_grows s
  | xferRecv => exact receive_grows _ s
  | crcBlock => exact crcBlock_grows s
  | blkRead => exact blkRead_grows _ s
  | blkWrite => exact blkWrite_grows _ _ s
  | blkBuild => exact blkBuild_grows _ _ _ _ _ _ _ s
  | seqQueryStatus => exact seqQueryStatus_grows s
  | seqRecordPass => exact seqRecordPass_grows _ _ _ s
  | seqWriteConfig => exact seqWriteConfig_grows _ s
  | statusShort => exact statusShort_grows _ _ _ _ _ _ s
  | profileSwitchShort => exact andThen_grows (emitShort_grows _ _ _ _ _ _ _ s) (readResponses_grows 3)
  | setColorLong => exact andThen_grows (emitLong_grows _ _ _ _ _ s) fun u => readResponses_grows _ u
  | startRecordLong | writeRecordLong => exact andThen_grows (emitLong_grows _ _ _ _ _ s) requireResponse_grows
  | endRecordShort => exact andThen_grows (emitShort_grows _ _ _ _ _ _ _ s) endResponses_grows
  | rootShort | getFeatureShort | connCheckShort | readRecordShort | startRecordShort | writeRecordShort | errBShort
  | errCShort => exact emitShort_grows _ _ _ _ _ _ _ s
  | rootLong | getFeatureLong | connCheckLong | statusLong | readRecordLong | endRecordLong | errBLong | errCLong =>
    exact emitLong_grows _ _ _ _ _ s

end

/-- Settles O47: every instruction's answer grows the state, whatever the sequencer's place at its start. -/
theorem historyOnlyGrows : Obligations.HistoryOnlyGrows := by
  intro i s t h
  obtain ⟨hhistory, hlines, hpar, hprog, hpos⟩ := exec_grows i s t h
  exact ⟨hhistory, hlines, hpar, hprog, hpos⟩

end Sys2Proof.Machine
end

section
/-! Decoding and encoding are inverse in both spaces. `Encodes` says what the decoder's answer owes its bytes: one law
for each form of operands gives the law of `commandOf`, and `decodeFrame_cases` says everything that bytes on the
transport port can be. -/

namespace Sys2Proof.Machine

/-! ## The op byte (R123) -/

theorem opByte_eq_shift_or (fn sw : Nibble) : opByte fn sw = (fn.setWidth 8 <<< 4) ||| sw.setWidth 8 := by
  unfold opByte
  rw [BitVec.append_def, BitVec.shiftLeftZeroExtend_eq, BitVec.setWidth'_eq]

/-- A function id read from an op byte, joined again with the software id beside it. -/
theorem opByte_of_function {op : Byte} {fn : Nibble} (h : (opFunction op).toNat = fn.toNat) :
    opByte fn (opSwid op) = op := by
  rw [← BitVec.eq_of_toNat_eq h, opByte_nibbles]

/-- The function id as an operand byte is the op byte shifted down. -/
theorem nibbleOperand_opFunction (op : Byte) : nibbleOperand (opFunction op) = op >>> 4 := by
  unfold nibbleOperand opFunction
  apply BitVec.eq_of_getLsbD_eq
  intro i hi
  rw [BitVec.getLsbD_setWidth, BitVec.getLsbD_extractLsb', BitVec.getLsbD_ushiftRight]
  by_cases h : i < 4
  · simp [h, hi]
  · simp [h, BitVec.getLsbD_of_ge op (4 + i) (by omega)]

theorem toNat_opFunction (op : Byte) : (opFunction op).toNat = (op >>> 4).toNat := by
  rw [← nibbleOperand_opFunction, nibbleOperand, BitVec.toNat_setWidth_of_le (by decide)]

/-- Settles O5: packing by shift and or is the append of the two nibbles, which reading them back undoes. -/
theorem opByteNibbles : Obligations.OpByteNibbles :=
  ⟨fun fn sw => ⟨opByte_eq_shift_or fn sw, opFunction_opByte fn sw, opSwid_opByte fn sw⟩, opByte_nibbles⟩

/-! ## Commands from their bytes (R150, R153) -/

/-- The instruction belongs to the space, and the bytes are its encoding. -/
def Encodes (space : Space) (i : Instr) (bytes : List Byte) : Prop := i.space = space ∧ encode i = bytes

/-- The code byte by which a row of R150 was found is the row's literal. -/
theorem cons_code {lit code : Byte} (h : code.toNat = lit.toNat) (operands : List Byte) :
    lit :: operands = code :: operands := by
  rw [BitVec.eq_of_toNat_eq h]

section

variable {code : Byte} {operands : List Byte} {i j : Instr}

theorem operands0_encodes (h : operands0 i operands = some j) (he : Encodes .hostCommand i [code]) :
    Encodes .hostCommand j (code :: operands) := by
  unfold operands0 at h
  split at h <;> cases h
  exact he

theorem operands1_encodes {f : Byte → Instr} (h : operands1 f operands = some j)
    (he : ∀ a, Encodes .hostCommand (f a) [code, a]) : Encodes .hostCommand j (code :: operands) := by
  unfold operands1 at h
  split at h <;> cases h
  exact he _

theorem operands3_encodes {f : Byte → Byte → Byte → Instr} (h : operands3 f operands = some j)
    (he : ∀ a b c, Encodes .hostCommand (f a b c) [code, a, b, c]) : Encodes .hostCommand j (code :: operands) := by
  unfold operands3 at h
  split at h <;> cases h
  exact he _ _ _

theorem operands4_encodes {f : Byte → Byte → Byte → Byte → Instr} (h : operands4 f operands = some j)
    (he : ∀ a b c d, Encodes .hostCommand (f a b c d) [code, a, b, c, d]) :
    Encodes .hostCommand j (code :: operands) := by
  unfold operands4 at h
  split at h <;> cases h
  exact he _ _ _ _

theorem operands7_encodes {f : Byte → Byte → Byte → Byte → Byte → Byte → Byte → Instr}
    (h : operands7 f operands = some j)
    (he : ∀ a b c d e g k, Encodes .hostCommand (f a b c d e g k) [code, a, b, c, d, e, g, k]) :
    Encodes .hostCommand j (code :: operands) := by
  unfold operands7 at h
  split at h <;> cases h
  exact he _ _ _ _ _ _ _

theorem operandsLong_encodes (h : operandsLong operands = some i) : Encodes .hostCommand i (0x11 :: operands) := by
  unfold operandsLong at h
  split at h
  · obtain ⟨payload, hp, rfl⟩ := Option.map_eq_some_iff.mp h
    exact ⟨rfl, by rw [← payloadOf_some hp]; rfl⟩
  · cases h

theorem operandsLine_encodes (h : operandsLine operands = some i) : Encodes .hostCommand i (0x30 :: operands) := by
  unfold operandsLine at h
  split at h
  · obtain ⟨data, hp, rfl⟩ := Option.map_eq_some_iff.mp h
    exact ⟨rfl, by rw [← payloadOf_some hp]; rfl⟩
  · cases h

theorem operandsBuild_encodes (h : operandsBuild operands = some i) : Encodes .hostCommand i (0x32 :: operands) := by
  unfold operandsBuild at h
  split at h <;> cases h
  exact ⟨rfl, by simp only [encode, loByte_halfLE, hiByte_halfLE]⟩

/-- Each row of R150: its code and its operand bytes are the encoding of its command. Case `h_k` is the k-th row of
`commandOf`; rows with one form of operands stand together. -/
theorem commandOf_encodes (h : commandOf code operands = some i) : Encodes .hostCommand i (code :: operands) := by
  unfold commandOf at h
  split at h
  case h_2 hc | h_5 hc | h_6 hc | h_7 hc | h_9 hc | h_11 hc | h_12 hc | h_16 hc =>
    exact operands0_encodes h ⟨rfl, cons_code hc _⟩
  case h_8 hc | h_10 hc | h_14 hc | h_18 hc => exact operands1_encodes h fun _ => ⟨rfl, cons_code hc _⟩
  case h_17 hc => exact operands3_encodes h fun _ _ _ => ⟨rfl, cons_code hc _⟩
  case h_1 hc => exact operands4_encodes h fun _ _ _ _ => ⟨rfl, cons_code hc _⟩
  case h_3 hc => exact operands7_encodes h fun _ _ _ _ _ _ _ => ⟨rfl, cons_code hc _⟩
  case h_4 hc => exact cons_code (lit := 0x11) hc operands ▸ operandsLong_encodes h
  case h_13 hc => exact cons_code (lit := 0x30) hc operands ▸ operandsLine_encodes h
  case h_15 hc => exact cons_code (lit := 0x32) hc operands ▸ operandsBuild_encodes h
  case h_19 => cases h

/-- The code of a command tells the length of its encoding. -/
theorem commandLength_of_encodes (h : Encodes .hostCommand i (code :: operands)) :
    commandLength code = some (operands.length + 1) := by
  obtain ⟨hspace, hbytes⟩ := h
  cases i with
  | encLong | blkWrite => cases hbytes; simp only [List.length_cons, Vector.length_toList]; rfl
  | sessionOpen | sessionClose | encShort | decStatus | classify | xferSend | xferRecv | crcInit | crcUpdate
  | crcBlock | crcRead | blkRead | blkBuild | seqQueryStatus | seqRecordPass | seqWriteConfig => cases hbytes; rfl
  | _ => cases hspace

theorem commandLength_of_commandOf (h : commandOf code operands = some i) :
    commandLength code = some (operands.length + 1) :=
  commandLength_of_encodes (commandOf_encodes h)

/-- Bytes decode to a command exactly when `commandOf` gives it: the length check never turns one away. -/
theorem decodeCommand_eq_ok_iff : decodeCommand (code :: operands) = .ok i ↔ commandOf code operands = some i := by
  constructor
  · intro h
    simp only [decodeCommand] at h
    split at h
    · cases h
    · split at h
      · next hi => cases h; exact hi
      · cases h
  · intro h
    simp only [decodeCommand, commandLength_of_commandOf h, h]

/-- A code of the table with too few or too many operand bytes (R152). -/
theorem decodeCommand_badLength {n : Nat} (hn : commandLength code = some n) (h : operands.length + 1 ≠ n) :
    decodeCommand (code :: operands) = .error (.badLength code) := by
  have hnone : commandOf code operands = none := by
    refine Option.eq_none_iff_forall_ne_some.mpr fun i hi => h ?_
    exact Option.some.inj ((commandLength_of_commandOf hi).symm.trans hn)
  simp only [decodeCommand, hn, hnone]

end

/-- A row of the command table is the one its code is looked up to, because no two rows have one code (R150). -/
theorem commandLength_of_mem {code : Byte} {n : Nat} (h : (code.toNat, n) ∈ commandTable) :
    commandLength code = some n := by
  obtain ⟨before, after, htable⟩ := List.append_of_mem h
  refine List.lookup_eq_some_iff.mpr ⟨before, after, htable, fun row hrow => ?_⟩
  obtain ⟨-, -, hdistinct⟩ := List.pairwise_append.mp (htable ▸ commandTable_distinct)
  exact bne_iff_ne.mpr (hdistinct row hrow _ List.mem_cons_self).symm

/-! ## Frames from their bytes (R120 to R124) -/

theorem shortFrame_of_function {dev feat op a b c : Byte} {fn : Nibble} (h : (opFunction op).toNat = fn.toNat) :
    shortFrame dev feat fn (opSwid op) a b c = [0x10, dev, feat, op, a, b, c] := by
  rw [shortFrame, opByte_of_function h]

theorem longFrame_of_function {dev feat op : Byte} {payload : Payload} {fn : Nibble}
    (h : (opFunction op).toNat = fn.toNat) :
    longFrame dev feat fn (opSwid op) payload = 0x11 :: dev :: feat :: op :: payload.toList := by
  rw [longFrame, opByte_of_function h]

theorem shortFrameOf_encodes {dev feat op a b c : Byte} {i : Instr} (h : shortFrameOf dev feat op a b c = .ok i) :
    Encodes .wireFrame i [0x10, dev, feat, op, a, b, c] := by
  unfold shortFrameOf at h
  split at h <;> cases h
  case h_1 hf | h_2 hf | h_3 hf | h_4 hf | h_5 hf | h_6 hf | h_7 hf | h_8 hf | h_9 hf | h_10 hf | h_11 hf =>
    exact ⟨rfl, shortFrame_of_function hf⟩

theorem longFrameOf_encodes {dev feat op : Byte} {payload : Payload} {i : Instr}
    (h : longFrameOf dev feat op payload = .ok i) :
    Encodes .wireFrame i (0x11 :: dev :: feat :: op :: payload.toList) := by
  unfold longFrameOf at h
  split at h <;> cases h
  case h_1 hf | h_2 hf | h_3 hf | h_4 hf | h_5 hf | h_6 hf | h_7 hf | h_8 hf | h_9 hf | h_10 hf | h_11 hf =>
    exact ⟨rfl, longFrame_of_function hf⟩

/-- The op bytes whose function id the source does not list (R125). -/
abbrev ReservedOp (op : Byte) : Prop :=
  op >>> 4 = 0x9 ∨ op >>> 4 = 0xA ∨ op >>> 4 = 0xD ∨ op >>> 4 = 0xE ∨ op >>> 4 = 0xF

theorem shortFrameOf_reserved {op : Byte} (h : ReservedOp op) (dev feat a b c : Byte) :
    shortFrameOf dev feat op a b c = .error (.reservedFunction (opFunction op)) := by
  have hfn := toNat_opFunction op
  rcases h with h | h | h | h | h <;> rw [h] at hfn <;> simp only [shortFrameOf, hfn] <;> rfl

theorem longFrameOf_reserved {op : Byte} (h : ReservedOp op) (dev feat : Byte) (payload : Payload) :
    longFrameOf dev feat op payload = .error (.reservedFunction (opFunction op)) := by
  have hfn := toNat_opFunction op
  rcases h with h | h | h | h | h <;> rw [h] at hfn <;> simp only [longFrameOf, hfn] <;> rfl

theorem decodeFrame_short (dev feat op a b c : Byte) :
    decodeFrame [0x10, dev, feat, op, a, b, c] = shortFrameOf dev feat op a b c := rfl

theorem decodeFrame_long (dev feat op : Byte) (payload : Payload) :
    decodeFrame (0x11 :: dev :: feat :: op :: payload.toList) = longFrameOf dev feat op payload := by
  simp [decodeFrame]

/-- Everything the decoder of frames can meet: a short frame, a long one, or bytes that are no frame. -/
theorem decodeFrame_cases {bytes : List Byte} {answer : Except DecodeError Instr} (h : decodeFrame bytes = answer) :
    (∃ dev feat op a b c, bytes = [0x10, dev, feat, op, a, b, c] ∧ shortFrameOf dev feat op a b c = answer) ∨
    (∃ dev feat op payload, bytes = 0x11 :: dev :: feat :: op :: payload.toList ∧
      longFrameOf dev feat op payload = answer) ∨
    answer = .error .notAFrame := by
  unfold decodeFrame at h
  split at h
  · next report dev feat op rest =>
    split at h
    · next hr =>
      subst hr
      split at h
      · exact .inl ⟨_, _, _, _, _, _, rfl, h⟩
      · exact .inr (.inr h.symm)
    · split at h
      · next hr =>
        subst hr
        split at h
        · next payload hp => exact .inr (.inl ⟨_, _, _, payload, by rw [payloadOf_some hp], h⟩)
        · exact .inr (.inr h.symm)
      · exact .inr (.inr h.symm)
  · exact .inr (.inr h.symm)

/-! ## Both directions -/

/-- A command's encoding decodes to it when its row of R150 reads it from these operand bytes. -/
theorem decode_encode_of_commandOf {i : Instr} {code : Byte} {operands : List Byte}
    (he : Encodes .hostCommand i (code :: operands)) (h : commandOf code operands = some i) :
    decode i.space (encode i) = .ok i := by
  obtain ⟨hspace, hbytes⟩ := he
  rw [hspace, hbytes]
  exact decodeCommand_eq_ok_iff.mpr h

/-- Settles O1, by the four kinds of instruction: a command of bytes, a command with a payload or with 16-bit operands,
a short frame, a long frame. The nibbles of its op byte tell a frame's row and software id. -/
theorem encodeThenDecode : Obligations.EncodeThenDecode := by
  intro i
  cases i with
  | sessionOpen | sessionClose | encShort | decStatus | classify | xferSend | xferRecv | crcInit | crcUpdate
  | crcBlock | crcRead | blkRead | seqQueryStatus | seqRecordPass | seqWriteConfig =>
    exact decode_encode_of_commandOf ⟨rfl, rfl⟩ rfl
  | encLong | blkWrite => exact decode_encode_of_commandOf ⟨rfl, rfl⟩ (congrArg (Option.map _) (payloadOf_toList _))
  | blkBuild =>
    refine decode_encode_of_commandOf ⟨rfl, rfl⟩ ?_
    simp only [commandOf, operandsBuild, halfLE_bytes]
    rfl
  | rootShort | getFeatureShort | connCheckShort | profileSwitchShort | statusShort | readRecordShort
  | startRecordShort | writeRecordShort | endRecordShort | errBShort | errCShort =>
    refine (decodeFrame_short ..).trans ?_
    simp only [shortFrameOf, opFunction_opByte, opSwid_opByte]
    rfl
  | rootLong | getFeatureLong | connCheckLong | setColorLong | statusLong | readRecordLong | startRecordLong
  | writeRecordLong | endRecordLong | errBLong | errCLong =>
    refine (decodeFrame_long ..).trans ?_
    simp only [longFrameOf, opFunction_opByte, opSwid_opByte]
    rfl

/-- Settles O2: by the rows of R150 for a command, by the two shapes of a frame and the rows of R124 for a frame. -/
theorem decodeThenEncode : Obligations.DecodeThenEncode := by
  intro space bytes i h
  cases space with
  | hostCommand =>
    cases bytes with
    | nil => cases h
    | cons code operands => exact commandOf_encodes (decodeCommand_eq_ok_iff.mp h)
  | wireFrame =>
    obtain ⟨_, _, _, _, _, _, rfl, hi⟩ | ⟨_, _, _, _, rfl, hi⟩ | hi := decodeFrame_cases h
    · exact shortFrameOf_encodes hi
    · exact longFrameOf_encodes hi
    · cases hi

/-- Settles O4: both commands have the length their code is looked up to, and a frame is a short or a long one. -/
theorem lengthToldByCode : Obligations.LengthToldByCode := by
  constructor
  · intro code operands operands' i i' h h'
    have hlen := commandLength_of_commandOf (decodeCommand_eq_ok_iff.mp h)
    have hlen' := commandLength_of_commandOf (decodeCommand_eq_ok_iff.mp h')
    exact Nat.succ.inj (Option.some.inj (hlen.symm.trans hlen'))
  · intro frame i h
    obtain ⟨_, _, _, _, _, _, rfl, -⟩ | ⟨_, _, _, payload, rfl, -⟩ | h := decodeFrame_cases h
    · exact .inl ⟨rfl, rfl⟩
    · exact .inr ⟨rfl, by simp only [List.length_cons, Vector.length_toList]⟩
    · cases h

/-- A table word whose bytes are an instruction's encoding decodes to it. -/
theorem decodeTableWord_of_encodes {nbits w : Nat} {i : Instr}
    (h : Encodes (tableWordBytes nbits w).1 i (tableWordBytes nbits w).2) : decodeTableWord nbits w = some i := by
  obtain ⟨hspace, hbytes⟩ := h
  rw [decodeTableWord, ← hspace, ← hbytes, encodeThenDecode i]

/-- Settles O3: each word spells the encoding of its instruction. -/
theorem tableWordsDecode : Obligations.TableWordsDecode := by
  refine ⟨?_, ?_, ?_, ?_, ?_, ?_⟩ <;> exact decodeTableWord_of_encodes ⟨rfl, rfl⟩

end Sys2Proof.Machine
end

section
/-! What a step does with a statement that runs no instruction: the host's control flow, and bytes that the decoder
turns away. -/

namespace Sys2Proof.Machine

open Sys2Proof.Statements

/-! ## Control flow (R154) -/

section

variable {s : State}

theorem step_goto {target : Nat} (hf : fetch s = some (.goto target)) : step s = .next { s with pos := target } := by
  simp only [step, hf]
  rfl

theorem step_branch {cond : HostCond} {target : Nat} (hf : fetch s = some (.branch cond target)) :
    step s = .next { s with pos := if condHolds s cond then target else s.pos + 1 } := by
  simp only [step, hf]
  rfl

theorem step_stop (hf : fetch s = some .stop) : step s = .next s := by
  simp only [step, hf]

theorem step_of_fetch_none (hf : fetch s = none) : step s = .next s := by
  simp only [step, hf]

end

/-- Settles O7: what the step does at each kind of statement, then the equations of `condHolds`. -/
theorem hostControlFlow : Obligations.HostControlFlow := by
  intro s cond target
  refine ⟨step_goto, fun hf hc => ?_, fun hf hc => ?_, step_stop, step_of_fetch_none, fun codes => ?_, fun i v => ?_,
    fun _ => rfl, fun _ _ => rfl⟩
  · rw [step_branch hf, if_pos hc]
  · rw [step_branch hf, hc]
    rfl
  · exact List.contains_eq_mem ..
  · exact beq_eq_decide ..

/-! ## Bytes that the decoder turns away (R152, R503, R506) -/

section

variable {s : State}

theorem step_command_error {bytes : List Byte} {e : DecodeError} (hf : fetch s = some (.command bytes))
    (hd : decodeCommand bytes = .error e) : step s = advance s (reject e s) := by
  simp only [step, hf, hd]

theorem step_frame_error {bytes : List Byte} {e : DecodeError} (hf : fetch s = some (.frame bytes))
    (hd : decodeFrame bytes = .error e) : step s = advance s (reject e s) := by
  simp only [step, hf, hd]

/-- At an idle sequencer a rejection changes only the result registers and the host's position. -/
theorem advance_raise {code : ResultCode} (hidle : SequencerIdle s) (hc : code ≠ .transportError) (aux : Byte) :
    advance s (.next (raise .outside code aux s)) = .next { s with res := refusal code aux, pos := s.pos + 1 } := by
  rw [raise_outside_idle hidle code aux (.inl hc)]
  rfl

/-- A frame with a reserved function id at an idle sequencer (R125, R503). -/
theorem step_reservedFunction {bytes : List Byte} {op : Byte} (hidle : SequencerIdle s)
    (hf : fetch s = some (.frame bytes)) (hd : decodeFrame bytes = .error (.reservedFunction (opFunction op))) :
    step s = .next { s with res := refusal .illegalFunction (op >>> 4), pos := s.pos + 1 } := by
  rw [step_frame_error hf hd, reject, nibbleOperand_opFunction]
  exact advance_raise hidle (by decide) _

end

/-- Settles O9: the code's row is the one it is looked up to, so the decoder answers `badLength`. -/
theorem wrongCommandLengths : Obligations.WrongCommandLengths := by
  intro s code operands n hidle hf hrow hlen
  have hd := decodeCommand_badLength (commandLength_of_mem hrow) hlen
  rw [step_command_error hf hd, reject]
  exact advance_raise hidle (by decide) _

/-- Settles O10: a reserved function id is no row of R124, and what is neither a short nor a long frame is none. -/
theorem framesThatAreNone : Obligations.FramesThatAreNone := by
  intro s dev feat op hidle
  refine ⟨fun hop => ⟨fun a b c hf => ?_, fun payload hf => ?_⟩, fun bytes hf hshort hlong => ?_⟩
  · exact step_reservedFunction hidle hf ((decodeFrame_short ..).trans (shortFrameOf_reserved hop ..))
  · exact step_reservedFunction hidle hf ((decodeFrame_long ..).trans (longFrameOf_reserved hop ..))
  · obtain ⟨_, _, _, _, _, _, rfl, -⟩ | ⟨_, _, _, _, rfl, -⟩ | hd := decodeFrame_cases (rfl : decodeFrame bytes = _)
    · exact absurd ⟨rfl, rfl⟩ hshort
    · exact absurd ⟨rfl, by simp only [List.length_cons, Vector.length_toList]⟩ hlong
    · rw [step_frame_error hf hd]
      rfl

end Sys2Proof.Machine
end

section
/-! The frame codec: the checks of the encoders in the terms of the spec, the op byte of operand bytes, the frame in
OBUF, the decoded status and the class, and that the session registers are not read. -/

namespace Sys2Proof.Machine

open Sys2Proof.Statements

section

variable {s : State} {fn sw : Byte}

/-! ## Refusals (R500, R513) -/

/-- At an idle sequencer a failing check changes only the result registers. -/
theorem guarded_refusal {checks : List Check} {body : State → Outcome} {code : ResultCode} {aux : Byte}
    (hidle : SequencerIdle s) (hc : ∀ c ∈ checks, ProperCheck s c) (h : firstFailing checks = some (code, aux)) :
    guarded checks s body = .next { s with res := refusal code aux } := by
  have hfatal := (hc _ (firstFailing_mem h) code aux rfl).2
  rw [guarded_refuse h, raise_outside_idle hidle code aux (or_iff_not_imp_left.mpr fun hne => hfatal (not_not.mp hne))]

theorem reservedFunction_iff :
    reservedFunction fn = true ↔ fn = 0x9 ∨ fn = 0xA ∨ fn = 0xD ∨ fn = 0xE ∨ fn = 0xF := by
  simp [reservedFunction, ← BitVec.toNat_inj]

theorem firstFailing_check_cons (bad : Bool) (code : ResultCode) (aux : Byte) (rest : List Check) :
    firstFailing (check bad code aux :: rest) = if bad then some (code, aux) else firstFailing rest := by
  cases bad <;> rfl

/-- The encoders' checks, in their order, are the refusal the spec gives (R200, R513). -/
theorem firstFailing_encoderChecks (fn sw : Byte) : firstFailing (encoderChecks fn sw) = encoderRefusal fn sw := by
  simp only [encoderChecks, firstFailing_check_cons, decide_eq_true_eq, reservedFunction_iff, firstFailing_nil]
  rfl

theorem toNat_le_of_encoderRefusal (h : encoderRefusal fn sw = none) : fn.toNat ≤ 15 ∧ sw.toNat ≤ 15 := by
  unfold encoderRefusal at h
  split at h
  · cases h
  · split at h
    · cases h
    · omega

/-! ## The op byte of operand bytes (R123, R151) -/

theorem nibbleOperand_lowNibble (b : Byte) : nibbleOperand (lowNibble b) = b &&& 0x0F := by
  apply BitVec.eq_of_toNat_eq
  rw [nibbleOperand, lowNibble, BitVec.toNat_setWidth_of_le (by decide), BitVec.extractLsb'_toNat, BitVec.toNat_and]
  exact (Nat.and_two_pow_sub_one_eq_mod b.toNat 4).symm

theorem and_low_of_le {b : Byte} (h : b.toNat ≤ 15) : b &&& 0x0F = b := by
  apply BitVec.eq_of_toNat_eq
  rw [BitVec.toNat_and]
  exact (Nat.and_two_pow_sub_one_eq_mod b.toNat 4).trans (Nat.mod_eq_of_lt (by omega))

theorem opByte_lowNibble (fn sw : Byte) : opByte (lowNibble fn) (lowNibble sw) = opOf fn sw := by
  rw [opByte_eq_shift_or]
  exact congrArg₂ (fun x y : Byte => x <<< 4 ||| y) (nibbleOperand_lowNibble fn) (nibbleOperand_lowNibble sw)

theorem lowNibble_opByte (fn sw : Nibble) : lowNibble (opByte fn sw) = sw := opSwid_opByte fn sw

/-- Legal operands are the nibbles of the op byte (R206). -/
theorem opOf_nibbles (h : encoderRefusal fn sw = none) : opOf fn sw >>> 4 = fn ∧ opOf fn sw &&& 0x0F = sw := by
  obtain ⟨hfn, hsw⟩ := toNat_le_of_encoderRefusal h
  rw [← opByte_lowNibble]
  constructor
  · rw [← nibbleOperand_opFunction, opFunction_opByte, nibbleOperand_lowNibble, and_low_of_le hfn]
  · rw [← nibbleOperand_lowNibble, lowNibble_opByte, nibbleOperand_lowNibble, and_low_of_le hsw]

theorem opOf_inj {fn' sw' : Byte} (h : encoderRefusal fn sw = none) (h' : encoderRefusal fn' sw' = none)
    (he : opOf fn sw = opOf fn' sw') : fn = fn' ∧ sw = sw' := by
  obtain ⟨hfn, hsw⟩ := opOf_nibbles h
  obtain ⟨hfn', hsw'⟩ := opOf_nibbles h'
  exact ⟨by rw [← hfn, he, hfn'], by rw [← hsw, he, hsw']⟩

/-! ## The frame in OBUF (R200, R201) -/

theorem shortFrame_lowNibble (dev feat fn sw a b c : Byte) :
    shortFrame dev feat (lowNibble fn) (lowNibble sw) a b c = shortBytes dev feat fn sw a b c := by
  rw [shortFrame, opByte_lowNibble, shortBytes]

theorem longFrame_lowNibble (dev feat fn sw : Byte) (payload : Payload) :
    longFrame dev feat (lowNibble fn) (lowNibble sw) payload = longBytes dev feat fn sw payload.toList := by
  rw [longFrame, opByte_lowNibble]
  rfl

@[simp] theorem length_longBytes (dev feat fn sw : Byte) (payload : Payload) :
    (longBytes dev feat fn sw payload.toList).length = 20 := by
  simp [longBytes]

/-- A frame that fits lies first in the buffer, and the old bytes stay behind it (R200). -/
theorem carries_overlay {frame : List Byte} (h : frame.length ≤ 20) (buf : FrameBuf) :
    Carries frame buf.toList (overlay buf frame) := by
  rw [Carries, toList_overlay, List.take_of_length_le]
  simp only [List.length_append, List.length_drop, Vector.length_toList]
  omega

theorem toList_overlay_long (buf : FrameBuf) (dev feat fn sw : Byte) (payload : Payload) :
    (overlay buf (longBytes dev feat fn sw payload.toList)).toList = longBytes dev feat fn sw payload.toList := by
  rw [carries_overlay (by simp)]
  simp

theorem buildShort_legal (h : encoderRefusal fn sw = none) (dev feat a b c : Byte) (s : State) :
    buildShort dev feat fn sw a b c s =
      .next (finish .ok [] (loadFrame .short (shortBytes dev feat fn sw a b c) s)) := by
  rw [buildShort, guarded_pass ((firstFailing_encoderChecks fn sw).trans h), shortFrame_lowNibble]

theorem buildLong_legal (h : encoderRefusal fn sw = none) (dev feat : Byte) (payload : Payload) (s : State) :
    buildLong dev feat fn sw payload s =
      .next (finish .ok [] (loadFrame .long (longBytes dev feat fn sw payload.toList) s)) := by
  rw [buildLong, guarded_pass ((firstFailing_encoderChecks fn sw).trans h), longFrame_lowNibble]

theorem buildShort_refusal {code : ResultCode} {aux : Byte} (hidle : SequencerIdle s)
    (h : encoderRefusal fn sw = some (code, aux)) (dev feat a b c : Byte) :
    buildShort dev feat fn sw a b c s = .next { s with res := refusal code aux } := by
  rw [buildShort, guarded_refusal hidle (properCheck_encoderChecks fn sw) ((firstFailing_encoderChecks ..).trans h)]

theorem buildLong_refusal {code : ResultCode} {aux : Byte} (hidle : SequencerIdle s)
    (h : encoderRefusal fn sw = some (code, aux)) (dev feat : Byte) (payload : Payload) :
    buildLong dev feat fn sw payload s = .next { s with res := refusal code aux } := by
  rw [buildLong, guarded_refusal hidle (properCheck_encoderChecks fn sw) ((firstFailing_encoderChecks ..).trans h)]

end

/-- Settles O19: the buffer is OBUF overlaid with the frame; a refusal is the checks' first failure. -/
theorem encShortBuilds : Obligations.EncShortBuilds := by
  intro s dev feat fn sw a b c
  exact ⟨fun h => ⟨_, carries_overlay (by simp [shortBytes]) s.obuf, buildShort_legal h ..⟩,
    fun _ _ h hidle => buildShort_refusal hidle h ..⟩

/-- Settles O20: a long frame fills the whole buffer; a refusal is the checks' first failure. -/
theorem encLongBuilds : Obligations.EncLongBuilds := by
  intro s dev feat fn sw payload
  exact ⟨fun h => ⟨_, toList_overlay_long s.obuf .., buildLong_legal h ..⟩,
    fun _ _ h hidle => buildLong_refusal hidle h ..⟩

/-! ## The frame in IBUF (R202, R203) -/

theorem exec_decStatus (s : State) :
    exec .decStatus s = .next { s with st := decodedStatus s, res := okWith (decodedStatus s).bytes } := rfl

theorem exec_classify (s : State) : exec .classify s = .next { s with res := okWith [(frameClass s).code] } := rfl

/-- Settles O22: the two branches of `decodedStatus`. -/
theorem decStatusDecodes : Obligations.DecStatusDecodes := by
  intro s
  rw [exec_decStatus]
  refine ⟨fun h => ?_, fun h => ?_⟩
  · rw [decodedStatus, if_pos (show s.ilen.val = 20 from congrArg Fin.val h)]
    rfl
  · rw [decodedStatus, if_neg fun hv : s.ilen.val = 20 => h (Fin.ext hv)]
    rfl

/-- Settles O23: the four branches of `frameClass`. -/
theorem classifyClasses : Obligations.ClassifyClasses := by
  intro s
  rw [exec_classify, frameClass]
  refine ⟨fun h => ?_, fun h1 h3 => ?_, fun h4 hz => ?_, fun h4 hnz => ?_⟩
  · rw [if_pos h]
    rfl
  · rw [if_neg (by omega), if_pos h3]
    rfl
  · rw [if_neg (by omega), if_neg (by omega), if_pos hz]
    rfl
  · rw [if_neg (by omega), if_neg (by omega), if_neg hnz]
    rfl

/-! ## The session is not read (R206) -/

/-- A command that ends, makes no transport call and does the same whatever the session registers hold. -/
def SessionBlind (f : State → Outcome) : Prop :=
  ∀ (s : State) (ses : Session),
    ∃ t, f s = .next t ∧ t.history = s.history ∧ f { s with ses := ses } = .next { t with ses := ses }

theorem raise_withSession (site : RaiseSite) {code : ResultCode} (hc : code ≠ .transportError) (aux : Byte)
    (s : State) (ses : Session) :
    raise site code aux { s with ses := ses } = { raise site code aux s with ses := ses } := by
  have hfatal : (ses.fatal || decide (code = .transportError)) = ses.fatal := by simp [hc]
  unfold raise
  simp only [hfatal]
  rfl

/-- A guarded command is blind to the session if its checks do not depend on the state and its body is. -/
theorem sessionBlind_guarded {checks : List Check} {body : State → Outcome}
    (hc : ∀ code aux, firstFailing checks = some (code, aux) → code ≠ .transportError) (hb : SessionBlind body) :
    SessionBlind (guarded checks · body) := by
  intro s ses
  cases h : firstFailing checks with
  | none => simpa only [guarded_pass h] using hb s ses
  | some failure =>
    refine ⟨_, guarded_refuse h, rfl, (guarded_refuse h).trans ?_⟩
    rw [raise_withSession _ (hc _ _ h)]

/-- No check of the encoders is the session's: none fails in a state without a fatal error. -/
theorem encoderChecks_ne_transportError {fn sw : Byte} (code : ResultCode) (aux : Byte)
    (h : firstFailing (encoderChecks fn sw) = some (code, aux)) : code ≠ .transportError := fun he =>
  nomatch (properCheck_encoderChecks (s := State.reset) fn sw _ (firstFailing_mem h) code aux rfl).2 he

theorem sessionBlind_encShort (dev feat fn sw a b c : Byte) : SessionBlind (exec (.encShort dev feat fn sw a b c)) :=
  sessionBlind_guarded encoderChecks_ne_transportError fun _ _ => ⟨_, rfl, rfl, rfl⟩

theorem sessionBlind_encLong (dev feat fn sw : Byte) (payload : Payload) :
    SessionBlind (exec (.encLong dev feat fn sw payload)) :=
  sessionBlind_guarded encoderChecks_ne_transportError fun _ _ => ⟨_, rfl, rfl, rfl⟩

theorem sessionBlind_decStatus : SessionBlind (exec .decStatus) := fun _ _ => ⟨_, rfl, rfl, rfl⟩

theorem sessionBlind_classify : SessionBlind (exec .classify) := fun _ _ => ⟨_, rfl, rfl, rfl⟩

/-! ## The laws of the codec (R206) -/

/-- A short frame lies in OBUF[0..6]. -/
theorem take_overlay_short (buf : FrameBuf) (dev feat fn sw a b c : Byte) :
    (overlay buf (shortBytes dev feat fn sw a b c)).toList.take 7 = shortBytes dev feat fn sw a b c := by
  rw [carries_overlay (by simp [shortBytes])]
  exact List.take_left' rfl

theorem getElem_overlay_short_op (buf : FrameBuf) (dev feat fn sw a b c : Byte) :
    (overlay buf (shortBytes dev feat fn sw a b c))[3] = opOf fn sw := by
  rw [getElem_overlay]
  rfl

theorem getElem_overlay_long_op (buf : FrameBuf) (dev feat fn sw : Byte) (payload : Payload) :
    (overlay buf (longBytes dev feat fn sw payload.toList))[3] = opOf fn sw := by
  rw [getElem_overlay]
  rfl

theorem shortBytes_inj {dev feat fn sw a b c dev' feat' fn' sw' a' b' c' : Byte} (h : encoderRefusal fn sw = none)
    (h' : encoderRefusal fn' sw' = none)
    (he : shortBytes dev feat fn sw a b c = shortBytes dev' feat' fn' sw' a' b' c') :
    [dev, feat, fn, sw, a, b, c] = [dev', feat', fn', sw', a', b', c'] := by
  injection he with _ he
  injection he with hdev he
  injection he with hfeat he
  injection he with hop habc
  obtain ⟨rfl, rfl⟩ := opOf_inj h h' hop
  rw [hdev, hfeat, habc]

theorem longBytes_inj {dev feat fn sw dev' feat' fn' sw' : Byte} {payload payload' : Payload}
    (h : encoderRefusal fn sw = none) (h' : encoderRefusal fn' sw' = none)
    (he : longBytes dev feat fn sw payload.toList = longBytes dev' feat' fn' sw' payload'.toList) :
    [dev, feat, fn, sw] = [dev', feat', fn', sw'] ∧ payload = payload' := by
  injection he with _ he
  injection he with hdev he
  injection he with hfeat he
  injection he with hop hpayload
  obtain ⟨rfl, rfl⟩ := opOf_inj h h' hop
  exact ⟨by rw [hdev, hfeat], Vector.toList_inj.mp hpayload⟩

/-- Settles O21: legal operands are read back from the frame in OBUF, and each of the four commands is blind to the
session. -/
theorem codecLaws : Obligations.CodecLaws := by
  refine ⟨?_, ?_, ?_, ?_⟩
  · intro s s' t t' dev feat fn sw a b c dev' feat' fn' sw' a' b' c' h h' ht ht'
    cases (buildShort_legal h ..).symm.trans ht
    cases (buildShort_legal h' ..).symm.trans ht'
    simp only [finish_obuf, loadFrame_obuf, take_overlay_short, getElem_overlay_short_op]
    exact ⟨(opOf_nibbles h).1, (opOf_nibbles h).2, shortBytes_inj h h'⟩
  · intro s s' t t' dev feat fn sw dev' feat' fn' sw' payload payload' h h' ht ht'
    cases (buildLong_legal h ..).symm.trans ht
    cases (buildLong_legal h' ..).symm.trans ht'
    simp only [finish_obuf, loadFrame_obuf, getElem_overlay_long_op]
    refine ⟨(opOf_nibbles h).1, (opOf_nibbles h).2, fun he => longBytes_inj h h' ?_⟩
    rw [← toList_overlay_long s.obuf, he, toList_overlay_long]
  · rintro s _ _ hlen rfl rfl
    exact ⟨_, (decStatusDecodes s).1 hlen, rfl⟩
  · intro s ses dev feat fn sw a b c payload i hi
    simp only [List.mem_cons, List.not_mem_nil, or_false] at hi
    rcases hi with rfl | rfl | rfl | rfl
    · exact sessionBlind_encShort dev feat fn sw a b c s ses
    · exact sessionBlind_encLong dev feat fn sw payload s ses
    · exact sessionBlind_decStatus s ses
    · exact sessionBlind_classify s ses

end Sys2Proof.Machine
end

section
/-! The transport commands: what a send and a read do in a ready session, in the terms of calls and answers, and their
refusals. -/

namespace Sys2Proof.Machine

open Sys2Proof.Statements

variable {s : State}

/-! ## Admission (R512, R513) -/

/-- The session's refusal comes before a command's own checks. -/
theorem firstFailing_of_sessionRefusal {failure : ResultCode × Byte} (h : sessionRefusal s = some failure)
    (rest : List Check) : firstFailing (transportChecks s ++ rest) = some failure := by
  unfold sessionRefusal at h
  split at h
  · next ho => simpa [transportChecks, ho] using h
  · next ho =>
    split at h
    · next hf => simpa [transportChecks, ho, hf] using h
    · cases h

/-- In a ready session the check of a transport command's own operand decides. -/
theorem firstFailing_ready (hr : Ready s) (bad : Bool) (code : ResultCode) (aux : Byte) :
    firstFailing (transportChecks s ++ [check bad code aux]) = if bad then some (code, aux) else none := by
  rw [transportChecks_pass hr.1 hr.2, firstFailing_check_cons, firstFailing_nil]

/-! ## Sending (R204) -/

theorem length_frameOut (s : State) : (frameOut s).length = s.olen.bytes := by
  rw [frameOut, List.length_take, Vector.length_toList]
  cases s.olen <;> rfl

/-- The call of a send is the spec's call for the frame in OBUF (R127, R130). -/
theorem controlWrite_eq_outCall (ho : s.olen ≠ .empty) : controlWrite s = outCall s (frameOut s) := by
  unfold controlWrite outCall
  rw [length_frameOut]
  cases h : s.olen with
  | empty => exact absurd h ho
  | short | long => rfl

theorem nextWriteAnswer_eq (ho : s.olen ≠ .empty) :
    nextWriteAnswer s = (portOf s).answerWrite (outCall s (frameOut s)) := by
  rw [← controlWrite_eq_outCall ho]
  rfl

theorem afterWrite_eq (ho : s.olen ≠ .empty) :
    afterWrite s = withPort s ((portOf s).afterOut (outCall s (frameOut s))) := by
  rw [← controlWrite_eq_outCall ho]
  rfl

/-- The raise of the transport port. -/
theorem raise_transportError (aux : Byte) (s : State) :
    raise .outside .transportError aux s = transportFailed s aux := by
  unfold raise
  rw [decide_eq_true rfl, Bool.or_true]
  rfl

/-- XFER_SEND of a frame in a ready session, with both answers of the transport (R204). -/
theorem transmit_ready (hr : Ready s) (ho : s.olen ≠ .empty) :
    transmit s =
      .next (if (portOf s).answerWrite (outCall s (frameOut s)) = .ok (frameOut s).length
             then sentState s s.obuf s.olen (frameOut s) else failedState s s.obuf s.olen (frameOut s)) := by
  have hpass := (firstFailing_ready hr _ .badOperand 0).trans (if_neg (mt of_decide_eq_true ho))
  rw [transmit, guarded_pass hpass, ← nextWriteAnswer_eq ho, length_frameOut]
  rcases send_cases .outside s with ⟨ha, hs⟩ | ⟨ha, hs⟩
  · rw [hs, if_pos ha, afterWrite_eq ho]
    rfl
  · rw [hs, if_neg ha, raise_transportError, afterWrite_eq ho]

/-- The checks of XFER_SEND (R204). -/
theorem properCheck_transmit :
    ∀ c ∈ transportChecks s ++ [check (s.olen = .empty) .badOperand 0], ProperCheck s c :=
  properCheck_transportChecks (List.forall_mem_singleton.mpr (properCheck_check _ _ _))

theorem transmit_sessionRefusal {code : ResultCode} {aux : Byte} (hidle : SequencerIdle s)
    (h : sessionRefusal s = some (code, aux)) : transmit s = .next { s with res := refusal code aux } := by
  rw [transmit, guarded_refusal hidle properCheck_transmit (firstFailing_of_sessionRefusal h _)]

/-- No frame was put into OBUF since the reset (R204). -/
theorem transmit_empty (hr : Ready s) (hidle : SequencerIdle s) (ho : s.olen = .empty) :
    transmit s = .next { s with res := refusal .badOperand 0 } := by
  have hfail := (firstFailing_ready hr _ .badOperand 0).trans (if_pos (decide_eq_true ho))
  rw [transmit, guarded_refusal hidle properCheck_transmit hfail]

/-- Settles O24: the session's checks, the check of OLEN, then the send with its two answers. -/
theorem xferSendSends : Obligations.XferSendSends := by
  intro s
  refine ⟨fun _ _ => transmit_sessionRefusal, transmit_empty, fun frame hr ho hframe => ?_⟩
  have hout : frame = frameOut s := by
    rw [hframe, frameOut]
    cases h : s.olen with
    | empty => exact absurd h ho
    | short | long => rfl
  rw [hout]
  exact transmit_ready hr ho

/-! ## Reading (R205) -/

theorem nextReadAnswer_eq (timeout : Nat) (s : State) :
    nextReadAnswer timeout s = (portOf s).answerRead (inCall s timeout) := rfl

theorem afterRead_eq (timeout : Nat) (s : State) :
    afterRead timeout s = withPort s ((portOf s).afterIn (inCall s timeout)) := rfl

theorem recv_ok {timeout : Nat} {bytes : List Byte} (site : RaiseSite)
    (h : (portOf s).answerRead (inCall s timeout) = .ok bytes) :
    recv site timeout s = .ok (storeInbound bytes (withPort s ((portOf s).afterIn (inCall s timeout)))) := by
  rw [← nextReadAnswer_eq] at h
  rw [recv, h, afterRead_eq]

theorem recv_fail {timeout : Nat} (h : (portOf s).answerRead (inCall s timeout) = .fail) :
    recv .outside timeout s = .error (transportFailed (withPort s ((portOf s).afterIn (inCall s timeout))) 2) := by
  rw [← nextReadAnswer_eq] at h
  rw [recv, h, raise_transportError, afterRead_eq]

/-- What a read stores is what it received (R39). -/
theorem received_storeInbound {bytes : List Byte} (h : bytes.length ≤ 20) (s : State) :
    Received bytes (storeInbound bytes s).ibuf (storeInbound bytes s).ilen := by
  refine ⟨by rw [storeInbound_ilen, Nat.min_eq_left h], ?_⟩
  show ((bytes ++ freeBytes s.free 20).take 20).take bytes.length = bytes
  rw [List.take_take, Nat.min_eq_left h, List.take_left]

/-- XFER_RECV with a legal selector passes its checks in a ready session. -/
theorem receive_admitted {tsel : Byte} (hr : Ready s) (ht : tsel.toNat ≤ 1) :
    firstFailing (transportChecks s ++ [check (1 < tsel.toNat) .badOperand 1]) = none :=
  (firstFailing_ready hr _ .badOperand 1).trans (if_neg (mt of_decide_eq_true ht.not_gt))

theorem receive_ok {tsel : Byte} {bytes : List Byte} (hr : Ready s) (ht : tsel.toNat ≤ 1)
    (h : (portOf s).answerRead (inCall s (timeoutOf tsel s.par)) = .ok bytes) :
    receive tsel s =
      .next (finish .ok [BitVec.ofNat 8 bytes.length]
        (storeInbound bytes (withPort s ((portOf s).afterIn (inCall s (timeoutOf tsel s.par)))))) := by
  have hlen := nextReadAnswer_length (nextReadAnswer_eq .. ▸ h)
  rw [receive, guarded_pass (receive_admitted hr ht), recv_ok _ h]
  simp only [storeInbound_ilen, Nat.min_eq_left hlen]

theorem receive_fail {tsel : Byte} (hr : Ready s) (ht : tsel.toNat ≤ 1)
    (h : (portOf s).answerRead (inCall s (timeoutOf tsel s.par)) = .fail) :
    receive tsel s =
      .next (transportFailed (withPort s ((portOf s).afterIn (inCall s (timeoutOf tsel s.par)))) 2) := by
  rw [receive, guarded_pass (receive_admitted hr ht), recv_fail h]

theorem receive_sessionRefusal {tsel : Byte} {code : ResultCode} {aux : Byte} (hidle : SequencerIdle s)
    (h : sessionRefusal s = some (code, aux)) : receive tsel s = .next { s with res := refusal code aux } := by
  rw [receive, guarded_refusal hidle (properCheck_receive tsel) (firstFailing_of_sessionRefusal h _)]

theorem receive_badSelector {tsel : Byte} (hr : Ready s) (hidle : SequencerIdle s) (ht : 1 < tsel.toNat) :
    receive tsel s = .next { s with res := refusal .badOperand 1 } := by
  have hfail := (firstFailing_ready hr _ .badOperand 1).trans (if_pos (decide_eq_true ht))
  rw [receive, guarded_refusal hidle (properCheck_receive tsel) hfail]

/-- Settles O25: the session's checks, the check of tsel, then the read with its two answers. -/
theorem xferRecvReads : Obligations.XferRecvReads := by
  rintro s tsel _ rfl
  refine ⟨fun _ _ => receive_sessionRefusal, receive_badSelector, fun bytes hr ht h => ?_, receive_fail⟩
  have hlen : bytes.length ≤ 20 := nextReadAnswer_length (nextReadAnswer_eq .. ▸ h)
  exact ⟨_, _, _, received_storeInbound hlen _, receive_ok hr ht h⟩

end Sys2Proof.Machine
end

section
/-! Wire frames up to their send: `Builds` says what the first part of a frame, ENC_SHORT or ENC_LONG, answers. The rest
of a frame follows for every builder at once: a frame that is only sent, one that is refused, and one whose send goes on
with reads. -/

namespace Sys2Proof.Machine

open Sys2Proof.Statements

variable {s : State} {i : Instr} {len : OutLen} {frame : List Byte} {build : Outcome} {sw : Nibble}

/-! ## Building (R200, R201, R504) -/

theorem toNat_nibbleOperand_le (n : Nibble) : (nibbleOperand n).toNat ≤ 15 := by
  rw [nibbleOperand, BitVec.toNat_setWidth_of_le (by decide)]
  exact Nat.le_of_lt_succ n.isLt

theorem nibbleOperand_eq_zero {n : Nibble} : nibbleOperand n = 0 ↔ n = 0 := by
  rw [← BitVec.toNat_inj, ← BitVec.toNat_inj, nibbleOperand, BitVec.toNat_setWidth_of_le (by decide)]
  rfl

/-- A wire frame's ids are nibbles, so of the encoders' checks only that of software id 0 is left (R504). -/
theorem encoderRefusal_nibbles {fn : Nibble} (hfn : reservedFunction (nibbleOperand fn) = false) (sw : Nibble) :
    encoderRefusal (nibbleOperand fn) (nibbleOperand sw) = if sw = 0 then some (.illegalSwid, 0) else none := by
  have hlisted := mt reservedFunction_iff.mpr (Bool.eq_false_iff.mp hfn)
  rw [encoderRefusal, if_neg (toNat_nibbleOperand_le fn).not_gt, if_neg (toNat_nibbleOperand_le sw).not_gt,
    if_neg hlisted]
  simp only [nibbleOperand_eq_zero]

/-- The first part of a wire frame with software id `sw`: it puts `frame` into OBUF, or is refused. -/
structure Builds (build : Outcome) (s : State) (sw : Nibble) (len : OutLen) (frame : List Byte) : Prop where
  fits     : frame.length = len.bytes
  nonempty : len ≠ .empty
  refused  : SequencerIdle s → sw = 0 → build = .next { s with res := refusal .illegalSwid 0 }
  built    : sw ≠ 0 → build = .next (finish .ok [] (loadFrame len frame s))

theorem builds_short {fn : Nibble} (hfn : reservedFunction (nibbleOperand fn) = false) (dev feat : Byte) (sw : Nibble)
    (a b c : Byte) (s : State) :
    Builds (buildShort dev feat (nibbleOperand fn) (nibbleOperand sw) a b c s) s sw .short
      (shortBytes dev feat (nibbleOperand fn) (sw.setWidth 8) a b c) where
  fits := rfl
  nonempty := nofun
  refused hidle hsw := buildShort_refusal hidle ((encoderRefusal_nibbles hfn sw).trans (if_pos hsw)) ..
  built hsw := buildShort_legal ((encoderRefusal_nibbles hfn sw).trans (if_neg hsw)) ..

theorem builds_long {fn : Nibble} (hfn : reservedFunction (nibbleOperand fn) = false) (dev feat : Byte) (sw : Nibble)
    (payload : Payload) (s : State) :
    Builds (buildLong dev feat (nibbleOperand fn) (nibbleOperand sw) payload s) s sw .long
      (longBytes dev feat (nibbleOperand fn) (sw.setWidth 8) payload.toList) where
  fits := length_longBytes ..
  nonempty := nofun
  refused hidle hsw := buildLong_refusal hidle ((encoderRefusal_nibbles hfn sw).trans (if_pos hsw)) ..
  built hsw := buildLong_legal ((encoderRefusal_nibbles hfn sw).trans (if_neg hsw)) ..

theorem Builds.carries (h : Builds build s sw len frame) : Carries frame s.obuf.toList (overlay s.obuf frame) :=
  carries_overlay (h.fits ▸ by cases len <;> decide) _

/-! ## Sending (R204) -/

theorem transmit_loaded (hr : Ready s) (hlen : frame.length = len.bytes) (hne : len ≠ .empty) :
    transmit (finish .ok [] (loadFrame len frame s)) =
      .next (if (portOf s).answerWrite (outCall s frame) = .ok frame.length
             then sentState s (overlay s.obuf frame) len frame else failedState s (overlay s.obuf frame) len frame) := by
  have hout : frameOut (finish .ok [] (loadFrame len frame s)) = frame := frameOut_loadFrame len frame s hlen
  rw [transmit_ready (s := finish .ok [] (loadFrame len frame s)) hr hne, hout]
  rfl

theorem Builds.emitsOnly (h : Builds build s sw len frame) (hr : Ready s) (hsw : sw ≠ 0)
    (hexec : exec i s = andThen build transmit) : EmitsOnly i s len frame := by
  rw [h.built hsw, andThen_ok rfl, transmit_loaded hr h.fits h.nonempty] at hexec
  exact ⟨_, h.carries, hexec⟩

/-- Settles O49: the frame is built, and the send's two answers are the two ends. -/
theorem emitOnlyFramesSend : Obligations.EmitOnlyFramesSend := by
  intro s dev feat sw a b c payload hr hsw
  have short {i : Instr} (fn : Nibble) (hfn : reservedFunction (nibbleOperand fn) = false)
      (hexec : exec i s = emitShort fn dev feat sw a b c s) :
      EmitsOnly i s .short (shortBytes dev feat (nibbleOperand fn) (sw.setWidth 8) a b c) :=
    (builds_short hfn dev feat sw a b c s).emitsOnly hr hsw hexec
  have long {i : Instr} (fn : Nibble) (hfn : reservedFunction (nibbleOperand fn) = false)
      (hexec : exec i s = emitLong fn dev feat sw payload s) :
      EmitsOnly i s .long (longBytes dev feat (nibbleOperand fn) (sw.setWidth 8) payload.toList) :=
    (builds_long hfn dev feat sw payload s).emitsOnly hr hsw hexec
  simp only [List.forall_mem_cons]
  exact ⟨⟨short 0x0 rfl rfl, short 0x1 rfl rfl, short 0x2 rfl rfl, short 0x5 rfl rfl, short 0x6 rfl rfl,
      short 0x7 rfl rfl, short 0xB rfl rfl, short 0xC rfl rfl, nofun⟩,
    long 0x0 rfl rfl, long 0x1 rfl rfl, long 0x2 rfl rfl, long 0x4 rfl rfl, long 0x5 rfl rfl, long 0x8 rfl rfl,
    long 0xB rfl rfl, long 0xC rfl rfl, nofun⟩

/-! ## Refusals (R504, R512) -/

/-- A command that the session refuses before it does anything else (R512). -/
def RefusedBySession (command : State → Outcome) : Prop :=
  ∀ (s : State) (code : ResultCode) (aux : Byte), SequencerIdle s → sessionRefusal s = some (code, aux) →
    command s = .next { s with res := refusal code aux }

theorem refusedBySession_transmit : RefusedBySession transmit := fun _ _ _ => transmit_sessionRefusal

theorem sessionRefusal_ne_ok {code : ResultCode} {aux : Byte} (h : sessionRefusal s = some (code, aux)) :
    code ≠ .ok := by
  unfold sessionRefusal at h
  split at h
  · cases h; nofun
  · split at h
    · cases h; nofun
    · cases h

theorem RefusedBySession.andThen {command : State → Outcome} (h : RefusedBySession command) (next : State → Outcome) :
    RefusedBySession fun t => andThen (command t) next := fun s code aux hidle hs => by
  simp only [h s code aux hidle hs]
  exact andThen_stop (sessionRefusal_ne_ok hs) _

theorem refusedBySession_guarded (body : State → Outcome) :
    RefusedBySession fun t => guarded (transportChecks t) t body := fun _ _ _ hidle hs =>
  guarded_refusal hidle (properCheck_transportChecks (rest := []) nofun) (firstFailing_of_sessionRefusal hs [])

theorem andThen_assoc (first : Outcome) (second third : State → Outcome) :
    andThen (andThen first second) third = andThen first fun t => andThen (second t) third := by
  cases first with
  | next t =>
    by_cases h : t.res.code = .ok
    · rw [andThen_ok h, andThen_ok h]
    · rw [andThen_stop h, andThen_stop h, andThen_stop h]
  | fault | refused => rfl

theorem Builds.notSent (h : Builds build s sw len frame) (hidle : SequencerIdle s) {second : State → Outcome}
    (hsecond : RefusedBySession second) (hexec : exec i s = andThen build second) : NotSent i s sw len frame := by
  refine ⟨fun hsw => ?_, fun code aux hsw hs => ⟨_, h.carries, ?_⟩⟩
  · rw [Refuses, hexec, h.refused hidle hsw]
    exact andThen_stop (show ResultCode.illegalSwid ≠ .ok by decide) _
  · rw [hexec, h.built hsw, andThen_ok rfl]
    exact hsecond (finish .ok [] (loadFrame len frame s)) code aux hidle hs

/-- Settles O50: a frame is its builder and a second command, a send with or without reads behind it or the query, that
the session refuses before anything else. -/
theorem wireFramesAreRefused : Obligations.WireFramesAreRefused := by
  intro s dev feat sw a b c payload hidle
  have short {i : Instr} (fn : Nibble) (hfn : reservedFunction (nibbleOperand fn) = false) {second : State → Outcome}
      (hsecond : RefusedBySession second)
      (hexec : exec i s = andThen (buildShort dev feat (nibbleOperand fn) (nibbleOperand sw) a b c s) second) :
      NotSent i s sw .short (shortBytes dev feat (nibbleOperand fn) (sw.setWidth 8) a b c) :=
    (builds_short hfn dev feat sw a b c s).notSent hidle hsecond hexec
  have long {i : Instr} (fn : Nibble) (hfn : reservedFunction (nibbleOperand fn) = false) {second : State → Outcome}
      (hsecond : RefusedBySession second)
      (hexec : exec i s = andThen (buildLong dev feat (nibbleOperand fn) (nibbleOperand sw) payload s) second) :
      NotSent i s sw .long (longBytes dev feat (nibbleOperand fn) (sw.setWidth 8) payload.toList) :=
    (builds_long hfn dev feat sw payload s).notSent hidle hsecond hexec
  have send : RefusedBySession transmit := refusedBySession_transmit
  have sendThen (next : State → Outcome) := send.andThen next
  simp only [shortFrames, longFrames, List.forall_mem_cons]
  exact ⟨⟨short 0x0 rfl send rfl, short 0x1 rfl send rfl, short 0x2 rfl send rfl,
      short 0x3 rfl (sendThen _) (andThen_assoc ..), short 0x4 rfl (refusedBySession_guarded _) rfl,
      short 0x5 rfl send rfl, short 0x6 rfl send rfl, short 0x7 rfl send rfl,
      short 0x8 rfl (sendThen _) (andThen_assoc ..), short 0xB rfl send rfl, short 0xC rfl send rfl, nofun⟩,
    long 0x0 rfl send rfl, long 0x1 rfl send rfl, long 0x2 rfl send rfl,
    long 0x3 rfl (sendThen _) (andThen_assoc ..), long 0x4 rfl send rfl, long 0x5 rfl send rfl,
    long 0x6 rfl (sendThen _) (andThen_assoc ..), long 0x7 rfl (sendThen _) (andThen_assoc ..),
    long 0x8 rfl send rfl, long 0xB rfl send rfl, long 0xC rfl send rfl, nofun⟩

end Sys2Proof.Machine
end

section
/-! Wire frames with reads (R253, R254, R257 to R259). `AfterReads` says what a frame and the reads behind it have left so
far, and each read takes it one response further; `readMany` is the one loop that every frame with reads runs. -/

namespace Sys2Proof.Machine

open Sys2Proof.Statements

variable {s t : State} {i : Instr} {len : OutLen} {frame : List Byte} {reads : List (List Byte)} {bytes : List Byte}
variable {p p' : Port} {q : Sequencer} {r : Result} {empty : State → State} {next : State → Outcome}

/-! ## Exchanges (R95) -/

theorem exchanges_sent {rest : List Exchange} :
    exchanges s p (.sent frame :: rest) = some p' ↔
      p.answerWrite (outCall s frame) = .ok frame.length ∧ exchanges s (p.afterOut (outCall s frame)) rest = some p' := by
  by_cases h : p.answerWrite (outCall s frame) = .ok frame.length <;> simp [exchanges, exchange, h]

theorem exchanges_got {rest : List Exchange} :
    exchanges s p (.got bytes :: rest) = some p' ↔
      p.answerRead (inCall s s.par.timeout) = .ok bytes ∧
        exchanges s (p.afterIn (inCall s s.par.timeout)) rest = some p' := by
  by_cases h : p.answerRead (inCall s s.par.timeout) = .ok bytes <;> simp [exchanges, exchange, h]

theorem exchanges_append {first second : List Exchange} :
    exchanges s p (first ++ second) = some p' ↔
      ∃ mid, exchanges s p first = some mid ∧ exchanges s mid second = some p' := by
  induction first generalizing p with
  | nil => simp [exchanges]
  | cons e first ih =>
    cases h : exchange s p e with
    | none => simp [exchanges, h]
    | some mid => simpa [exchanges, h] using ih

/-! ## The state after some reads (R39, R204, R205) -/

theorem holdsLast_nil (s : State) : HoldsLast s [] s.ibuf s.ilen := ⟨fun _ => ⟨rfl, rfl⟩, nofun⟩

theorem holdsLast_append (s : State) (reads : List (List Byte)) {ibuf : FrameBuf} {ilen : Fin 21}
    (h : Received bytes ibuf ilen) : HoldsLast s (reads ++ [bytes]) ibuf ilen :=
  ⟨fun he => absurd he (by simp), fun last hlast => by
    rw [List.getLast?_concat] at hlast
    cases hlast
    exact h⟩

/-- What a frame that was sent from `s` and the reads behind it have left: the frame is in OBUF, the last frame read in
IBUF, the port is `p`, and SEQ_* and RES_* hold `q` and `r`. -/
def AfterReads (s : State) (len : OutLen) (frame : List Byte) (reads : List (List Byte)) (p : Port) (q : Sequencer)
    (r : Result) (t : State) : Prop :=
  ∃ (buf ibuf : FrameBuf) (ilen : Fin 21) (free : Nat), Carries frame s.obuf.toList buf ∧ HoldsLast s reads ibuf ilen ∧
    t = { withTraffic s p buf len ibuf ilen free with seq := q, res := r }

/-- The state after the next read delivered `bytes`. -/
abbrev afterGot (bytes : List Byte) (s : State) : State :=
  storeInbound bytes (withPort s ((portOf s).afterIn (inCall s s.par.timeout)))

section
variable (h : AfterReads s len frame reads p q r t)
include h

theorem AfterReads.ready (hr : Ready s) : Ready t := by
  obtain ⟨buf, ibuf, ilen, free, -, -, rfl⟩ := h
  exact hr

theorem AfterReads.seq : t.seq = q := by
  obtain ⟨buf, ibuf, ilen, free, -, -, rfl⟩ := h
  rfl

theorem AfterReads.par : t.par = s.par := by
  obtain ⟨buf, ibuf, ilen, free, -, -, rfl⟩ := h
  rfl

/-- The next read is answered as the port `p` answers the session's call. -/
theorem AfterReads.answerRead :
    (portOf t).answerRead (inCall t t.par.timeout) = p.answerRead (inCall s s.par.timeout) := by
  obtain ⟨buf, ibuf, ilen, free, -, -, rfl⟩ := h
  rfl

theorem AfterReads.setSeq (q' : Sequencer) : AfterReads s len frame reads p q' r { t with seq := q' } := by
  obtain ⟨buf, ibuf, ilen, free, hbuf, hlast, rfl⟩ := h
  exact ⟨buf, ibuf, ilen, free, hbuf, hlast, rfl⟩

theorem AfterReads.finish (code : ResultCode) (data : List Byte) :
    AfterReads s len frame reads p q ⟨code, ⟨0, 0, 0, 0⟩, data⟩ (finish code data t) := by
  obtain ⟨buf, ibuf, ilen, free, hbuf, hlast, rfl⟩ := h
  exact ⟨buf, ibuf, ilen, free, hbuf, hlast, rfl⟩

/-- A read that fails leaves the buffers alone. -/
theorem AfterReads.callFailed :
    AfterReads s len frame reads (p.afterIn (inCall s s.par.timeout)) q r
      (withPort t ((portOf t).afterIn (inCall t t.par.timeout))) := by
  obtain ⟨buf, ibuf, ilen, free, hbuf, hlast, rfl⟩ := h
  exact ⟨buf, ibuf, ilen, free, hbuf, hlast, rfl⟩

theorem AfterReads.read (ha : p.answerRead (inCall s s.par.timeout) = .ok bytes) :
    AfterReads s len frame (reads ++ [bytes]) (p.afterIn (inCall s s.par.timeout)) q r (afterGot bytes t) := by
  have hlen := nextReadAnswer_length (h.answerRead.trans ha)
  obtain ⟨buf, ibuf, ilen, free, hbuf, -, rfl⟩ := h
  exact ⟨buf, _, _, _, hbuf, holdsLast_append s reads (received_storeInbound hlen _), rfl⟩

end

theorem AfterReads.received (h : AfterReads s len frame (reads ++ [bytes]) p q r t) : Received bytes t.ibuf t.ilen := by
  obtain ⟨buf, ibuf, ilen, free, -, hlast, rfl⟩ := h
  exact hlast.2 bytes List.getLast?_concat

theorem decodedStatus_of_received (h : Received bytes t.ibuf t.ilen) : decodedStatus t = statusOf bytes := by
  obtain ⟨hlen, hbytes⟩ := h
  rw [decodedStatus, statusOf, hlen]
  split
  · next h20 =>
    rw [List.take_of_length_le (by rw [Vector.length_toList, h20])] at hbytes
    simp [← hbytes]
  · rfl

/-! ## The loop of reads (R205, R440) -/

/-- One read of a response: an empty one ends the frame as `empty` says, and after any other `next` follows. -/
def readThen (empty : State → State) (next : State → Outcome) (t : State) : Outcome :=
  andThen (receive 0 t) fun u => if u.ilen.val = 0 then .next (empty u) else next u

/-- As many reads, and then `last`. -/
def readMany (empty : State → State) (last : State → Outcome) : Nat → State → Outcome
  | 0 => last
  | n + 1 => readThen empty (readMany empty last n)

theorem readResponses_eq_readMany (n : Nat) : readResponses n = readMany id .next n := by
  induction n with
  | zero => rfl
  | succ n ih => rw [readMany, ← ih]; rfl

/-- A response that is required, and a command behind it (log 21). -/
theorem andThen_requireResponse (next : State → Outcome) (t : State) :
    andThen (requireResponse t) next = readThen (raise .outside .transportError 3) next t := by
  rw [requireResponse, andThen_assoc, readThen]
  cases receive 0 t with
  | next u =>
    by_cases hok : u.res.code = .ok
    · rw [andThen_ok hok, andThen_ok hok]
      split
      · exact andThen_stop (show ResultCode.transportError ≠ .ok by decide) _
      · exact andThen_ok hok _
    · rw [andThen_stop hok, andThen_stop hok]
  | fault | refused => rfl

theorem requireResponse_eq_readMany : requireResponse = readMany (raise .outside .transportError 3) .next 1 := by
  funext t
  simp only [requireResponse, readMany, readThen, apply_ite]

/-- The length of the last frame read, as the data of XFER_RECV (R205). -/
def lastLength (reads : List (List Byte)) : List Byte :=
  match reads.getLast? with
  | some last => [BitVec.ofNat 8 last.length]
  | none => []

theorem lastLength_append (reads : List (List Byte)) (bytes : List Byte) :
    lastLength (reads ++ [bytes]) = [BitVec.ofNat 8 bytes.length] := by
  rw [lastLength, List.getLast?_concat]

section
variable (h : AfterReads s len frame reads p q r t) (hr : Ready s)
include h hr

theorem AfterReads.receive_ok (ha : p.answerRead (inCall s s.par.timeout) = .ok bytes) :
    ∃ u, receive 0 t = .next u ∧ u.res.code = .ok ∧
      AfterReads s len frame (reads ++ [bytes]) (p.afterIn (inCall s s.par.timeout)) q
        (okWith (lastLength (reads ++ [bytes]))) u :=
  ⟨_, Machine.receive_ok (h.ready hr) (by decide) (h.answerRead.trans ha), rfl,
    lastLength_append reads bytes ▸ (h.read ha).finish _ _⟩

theorem readThen_ok (ha : p.answerRead (inCall s s.par.timeout) = .ok bytes) (hne : bytes ≠ []) :
    ∃ u, readThen empty next t = next u ∧
      AfterReads s len frame (reads ++ [bytes]) (p.afterIn (inCall s s.par.timeout)) q
        (okWith (lastLength (reads ++ [bytes]))) u := by
  obtain ⟨u, hu, hok, hread⟩ := h.receive_ok hr ha
  have hlen : u.ilen.val ≠ 0 := by rw [hread.received.1]; simpa using hne
  exact ⟨u, by rw [readThen, hu, andThen_ok hok, if_neg hlen], hread⟩

theorem readThen_empty (ha : p.answerRead (inCall s s.par.timeout) = .ok []) :
    ∃ u, readThen empty next t = .next (empty u) ∧
      AfterReads s len frame (reads ++ [[]]) (p.afterIn (inCall s s.par.timeout)) q (okWith [0]) u := by
  obtain ⟨u, hu, hok, hread⟩ := h.receive_ok hr ha
  have hlen : u.ilen.val = 0 := hread.received.1
  exact ⟨u, by rw [readThen, hu, andThen_ok hok, if_pos hlen], lastLength_append reads [] ▸ hread⟩

theorem readThen_fail (ha : p.answerRead (inCall s s.par.timeout) = .fail) :
    ∃ u, readThen empty next t = .next (transportFailed u 2) ∧
      AfterReads s len frame reads (p.afterIn (inCall s s.par.timeout)) q r u := by
  refine ⟨_, ?_, h.callFailed⟩
  rw [readThen, receive_fail (tsel := 0) (h.ready hr) (by decide) (h.answerRead.trans ha)]
  exact andThen_stop (show ResultCode.transportError ≠ .ok by decide) _

end

/-- Responses that are not empty take the loop on, one for each read. -/
theorem readMany_reads {last : State → Outcome} (n : Nat) (hr : Ready s)
    {rest : List (List Byte)} (hrest : ∀ r ∈ rest, r ≠ []) (hex : exchanges s p (rest.map .got) = some p')
    (h : AfterReads s len frame reads p q (okWith (lastLength reads)) t) :
    ∃ u, readMany empty last (n + rest.length) t = readMany empty last n u ∧
      AfterReads s len frame (reads ++ rest) p' q (okWith (lastLength (reads ++ rest))) u := by
  induction rest generalizing reads p t with
  | nil =>
    cases hex
    exact ⟨t, rfl, (List.append_nil reads).symm ▸ h⟩
  | cons first rest ih =>
    obtain ⟨hfirst, hrest⟩ := List.forall_mem_cons.mp hrest
    obtain ⟨ha, hex⟩ := exchanges_got.mp hex
    obtain ⟨u, hu, hread⟩ := readThen_ok h hr ha hfirst
    obtain ⟨v, hv, hreads⟩ := ih hrest hex hread
    exact ⟨v, hu.trans hv, by simpa using hreads⟩

/-! ## Frames with reads (R440) -/

/-- A frame is built and sent, and `next` follows once the transport has taken it. -/
structure SendsThen (i : Instr) (s : State) (len : OutLen) (frame : List Byte) (next : State → Outcome) : Prop where
  sent   : (portOf s).answerWrite (outCall s frame) = .ok frame.length →
    ∃ t, exec i s = next t ∧ AfterReads s len frame [] ((portOf s).afterOut (outCall s frame)) s.seq (okWith []) t
  failed : FailedSendRaises i s len frame

theorem Builds.sendsThen {build : Outcome} {sw : Nibble} (h : Builds build s sw len frame) (hr : Ready s) (hsw : sw ≠ 0)
    (hexec : exec i s = andThen (andThen build transmit) next) : SendsThen i s len frame next := by
  rw [h.built hsw, andThen_ok rfl, transmit_loaded hr h.fits h.nonempty] at hexec
  refine ⟨fun ha => ⟨_, ?_, _, s.ibuf, s.ilen, s.free, h.carries, holdsLast_nil s, rfl⟩, fun ha => ⟨_, h.carries, ?_⟩⟩
  · rw [hexec, if_pos ha]
    exact andThen_ok rfl next
  · rw [hexec, if_neg ha]
    exact andThen_stop (show ResultCode.transportError ≠ .ok by decide) _

/-- Before each of a frame's `need` reads the frame comes to that read, the earlier ones being not empty. `q` is what
SEQ_* hold after them. -/
def Reads (i : Instr) (s : State) (len : OutLen) (frame : List Byte) (need : Nat) (empty : State → State)
    (q : List (List Byte) → Sequencer) : Prop :=
  ∀ (reads : List (List Byte)) (p : Port), reads.length < need → (∀ r ∈ reads, r ≠ []) →
    exchanges s (portOf s) (.sent frame :: reads.map .got) = some p →
    ∃ (next : State → Outcome) (r : Result) (t : State),
      exec i s = readThen empty next t ∧ AfterReads s len frame reads p (q reads) r t

section
variable {need : Nat} {q : List (List Byte) → Sequencer} (h : Reads i s len frame need empty q) (hr : Ready s)
include h hr

theorem Reads.failedReadRaises : FailedReadRaises i s len frame need fun reads => { s with seq := q reads } := by
  intro reads p hlt hne hex hfail
  obtain ⟨next, r, t, ht, hreads⟩ := h reads p hlt hne hex
  obtain ⟨u, hu, buf, ibuf, ilen, free, hbuf, hlast, rfl⟩ := readThen_fail hreads hr hfail
  exact ⟨buf, ibuf, ilen, free, hbuf, hlast, ht.trans hu⟩

theorem Reads.emptyReadEnds {ends : State → State} (hends : ∀ u, empty { u with res := okWith [0] } = ends u) :
    EmptyReadEnds i s len frame need (fun reads => { s with seq := q reads }) ends := by
  intro reads p hlt hne hex
  obtain ⟨mid, hreads, hlast⟩ := exchanges_append.mp hex
  obtain ⟨ha, ⟨⟩⟩ := exchanges_got.mp hlast
  obtain ⟨next, r, t, ht, hreads⟩ := h reads mid hlt hne hreads
  obtain ⟨u, hu, hread⟩ := readThen_empty hreads hr ha
  have hlen := hread.received.1
  obtain ⟨buf, ibuf, ilen, free, hbuf, -, rfl⟩ := hread
  obtain rfl : ilen = 0 := Fin.ext hlen
  have hend := hends (withTraffic { s with seq := q reads } (mid.afterIn (inCall s s.par.timeout)) buf len ibuf 0 free)
  exact ⟨buf, ibuf, free, hbuf, (ht.trans hu).trans (congrArg _ hend)⟩

end

section
variable {need : Nat} (h : SendsThen i s len frame (readMany empty .next need)) (hr : Ready s)
include h hr

/-- The frame is sent and some of its responses are read. -/
theorem SendsThen.reaches {n : Nat} (hneed : need = n + reads.length) (hne : ∀ r ∈ reads, r ≠ [])
    (hex : exchanges s (portOf s) (.sent frame :: reads.map .got) = some p) :
    ∃ u, exec i s = readMany empty .next n u ∧
      AfterReads s len frame reads p s.seq (okWith (lastLength reads)) u := by
  obtain ⟨ha, hex⟩ := exchanges_sent.mp hex
  obtain ⟨t, ht, hsent⟩ := h.sent ha
  rw [ht, hneed]
  exact readMany_reads n hr hne hex hsent

theorem SendsThen.toReads : Reads i s len frame need empty fun _ => s.seq := by
  intro reads p hlt hne hex
  obtain ⟨u, hu, hreads⟩ := h.reaches hr (n := need - reads.length - 1 + 1) (by omega) hne hex
  exact ⟨_, _, u, hu, hreads⟩

theorem SendsThen.readsAll (hneed : reads.length = need) (hne : ∀ r ∈ reads, r ≠ [])
    (hex : exchanges s (portOf s) (.sent frame :: reads.map .got) = some p) :
    ∃ (buf ibuf : FrameBuf) (ilen : Fin 21) (free : Nat),
      Carries frame s.obuf.toList buf ∧ HoldsLast s reads ibuf ilen ∧
      exec i s = .next { withTraffic s p buf len ibuf ilen free with res := okWith (lastLength reads) } := by
  obtain ⟨u, hu, buf, ibuf, ilen, free, hbuf, hlast, rfl⟩ := h.reaches hr (n := 0) (by omega) hne hex
  exact ⟨buf, ibuf, ilen, free, hbuf, hlast, hu⟩

end

/-- Settles O51: the loop of three reads, which an empty one ends with OK. -/
theorem profileSwitchReads : Obligations.ProfileSwitchReads := by
  rintro s dev feat sw a b c _ hr hsw rfl
  have h : SendsThen (.profileSwitchShort dev feat sw a b c) s .short (shortBytes dev feat 0x3 (sw.setWidth 8) a b c)
      (readMany id .next 3) :=
    (builds_short (fn := 0x3) rfl dev feat sw a b c s).sendsThen hr hsw (readResponses_eq_readMany 3 ▸ rfl)
  have hreads := h.toReads hr
  refine ⟨fun r1 r2 r3 p h1 h2 h3 hex => ?_, h.failed, hreads.failedReadRaises hr, hreads.emptyReadEnds hr fun _ => rfl⟩
  obtain ⟨buf, ibuf, ilen, free, hbuf, hlast, hexec⟩ :=
    h.readsAll hr (reads := [r1, r2, r3]) rfl (by simp [h1, h2, h3]) hex
  exact ⟨buf, ibuf, ilen, free, hbuf, hlast.2 r3 rfl, hexec⟩

/-- Settles O52: the loop of P_LED_RESPONSES reads, which an empty one ends with OK. -/
theorem setColorReads : Obligations.SetColorReads := by
  rintro s dev feat sw payload _ hr hsw rfl
  have hsends := (builds_long (fn := 0x3) rfl dev feat sw payload s).sendsThen
    (i := .setColorLong dev feat sw payload) hr hsw (next := fun t => readResponses t.par.ledResponses t) rfl
  have h : SendsThen (.setColorLong dev feat sw payload) s .long
      (longBytes dev feat 0x3 (sw.setWidth 8) payload.toList) (readMany id .next s.par.ledResponses) :=
    { hsends with
      sent := fun ha => by
        obtain ⟨t, ht, hsent⟩ := hsends.sent ha
        exact ⟨t, by rw [ht, hsent.par, readResponses_eq_readMany], hsent⟩ }
  have hreads := h.toReads hr
  exact ⟨fun _ _ => h.readsAll hr, h.failed, hreads.failedReadRaises hr, hreads.emptyReadEnds hr fun _ => rfl⟩

/-- Settles O53: one read, which an empty one ends with a raise. -/
theorem beginAndWriteFramesPace : Obligations.BeginAndWriteFramesPace := by
  intro s dev feat sw payload hr hsw
  have hsends : ∀ i ∈ ([(0x6, .startRecordLong dev feat sw payload), (0x7, .writeRecordLong dev feat sw payload)]
      : List (Byte × Instr)), SendsThen i.2 s .long (longBytes dev feat i.1 (sw.setWidth 8) payload.toList)
        (readMany (raise .outside .transportError 3) .next 1) := by
    simp only [List.forall_mem_cons, ← requireResponse_eq_readMany]
    exact ⟨(builds_long (fn := 0x6) rfl dev feat sw payload s).sendsThen hr hsw rfl,
      (builds_long (fn := 0x7) rfl dev feat sw payload s).sendsThen hr hsw rfl, nofun⟩
  rintro i hi _ rfl
  have h := hsends i hi
  refine ⟨fun response p hne hex => ?_, h.failed, (h.toReads hr).failedReadRaises hr,
    (h.toReads hr).emptyReadEnds hr fun _ => raise_transportError 3 _⟩
  obtain ⟨buf, ibuf, ilen, free, hbuf, hlast, hexec⟩ := h.readsAll hr (reads := [response]) rfl (by simp [hne]) hex
  exact ⟨buf, ibuf, ilen, free, hbuf, hlast.2 response rfl, hexec⟩

/-! ## END_RECORD.short (R259) -/

theorem endResponses_eq (t : State) :
    endResponses t =
      readThen (raise .outside .transportError 3)
        (fun first =>
          readMany (raise .outside .transportError 3)
            (fun third => .next (finish (decodedStatus first).resultCode (decodedStatus first).bytes third)) 2
            (recordEndStatus (decodedStatus first) first)) t := by
  simp only [endResponses, andThen_requireResponse]
  rfl

/-- The End statuses are registers of the sequencer. -/
theorem withEndStatus_eq (s : State) : withEndStatus s = fun reads => { s with seq := (withEndStatus s reads).seq } := by
  funext reads
  cases reads <;> rfl

/-- The first response is decoded into the End status of the pass. -/
theorem AfterReads.recordEndStatus {first : List Byte} (h : AfterReads s len frame [first] p s.seq r t) :
    AfterReads s len frame [first] p (withEndStatus s [first]).seq r (recordEndStatus (decodedStatus t) t) := by
  have hread : Received first t.ibuf t.ilen := AfterReads.received (reads := []) h
  rw [recordEndStatus_eq, decodedStatus_of_received hread, h.seq]
  exact h.setSeq _

theorem resultCode_eq_statusCode (st : Status) : st.resultCode = statusCode st := by
  simp [Status.resultCode, statusCode, Status.rejected]

theorem bytes_eq_statusData (st : Status) : st.bytes = statusData st := rfl

section
variable (h : SendsThen i s len frame endResponses) (hr : Ready s)
include h hr

/-- The frame is sent and the first of its responses is read, perhaps others too. -/
theorem SendsThen.reachesEnd {first : List Byte} {rest : List (List Byte)} {n : Nat} (hneed : n + rest.length = 2)
    (hne : ∀ r ∈ first :: rest, r ≠ [])
    (hex : exchanges s (portOf s) (.sent frame :: (first :: rest).map .got) = some p) :
    ∃ u,
      exec i s =
        readMany (raise .outside .transportError 3)
          (fun third => .next (finish (statusCode (statusOf first)) (statusData (statusOf first)) third)) n u ∧
      AfterReads s len frame (first :: rest) p (withEndStatus s [first]).seq (okWith (lastLength (first :: rest))) u := by
  obtain ⟨hfirst, hrest⟩ := List.forall_mem_cons.mp hne
  obtain ⟨ha, hex⟩ := exchanges_sent.mp hex
  obtain ⟨har, hex⟩ := exchanges_got.mp hex
  obtain ⟨t, ht, hsent⟩ := h.sent ha
  obtain ⟨u, hu, hread⟩ := readThen_ok hsent hr har hfirst
  obtain ⟨v, hv, hreads⟩ := readMany_reads n hr hrest hex hread.recordEndStatus
  rw [ht, endResponses_eq, hu, ← hneed, hv, decodedStatus_of_received hread.received, resultCode_eq_statusCode,
    bytes_eq_statusData]
  exact ⟨v, rfl, hreads⟩

theorem SendsThen.toEndReads :
    Reads i s len frame 3 (raise .outside .transportError 3) fun reads => (withEndStatus s reads).seq := by
  intro reads p hlt hne hex
  cases reads with
  | nil =>
    obtain ⟨ha, ⟨⟩⟩ := exchanges_sent.mp hex
    obtain ⟨t, ht, hsent⟩ := h.sent ha
    exact ⟨_, _, t, ht.trans (endResponses_eq t), hsent⟩
  | cons first rest =>
    have hneed : 1 - rest.length + 1 + rest.length = 2 := by
      rw [List.length_cons] at hlt
      omega
    obtain ⟨u, hu, hreads⟩ := h.reachesEnd hr hneed hne hex
    exact ⟨_, _, u, hu, hreads⟩

end

/-- Settles O54: the first read and its status, then two reads more; the status is reported after the last. -/
theorem endFrameReportsStatus : Obligations.EndFrameReportsStatus := by
  rintro s dev feat sw a b c _ hr hsw rfl
  have h : SendsThen (.endRecordShort dev feat sw a b c) s .short (shortBytes dev feat 0x8 (sw.setWidth 8) a b c)
      endResponses := (builds_short (fn := 0x8) rfl dev feat sw a b c s).sendsThen hr hsw rfl
  refine ⟨fun r1 r2 r3 p h1 h2 h3 hex => ?_, h.failed, ?_, ?_⟩
  · obtain ⟨u, hu, buf, ibuf, ilen, free, hbuf, hlast, rfl⟩ :=
      h.reachesEnd hr (first := r1) (rest := [r2, r3]) (n := 0) rfl (by simp [h1, h2, h3]) hex
    exact ⟨buf, ibuf, ilen, free, hbuf, hlast.2 r3 rfl, hu⟩
  · rw [withEndStatus_eq]
    exact (h.toEndReads hr).failedReadRaises hr
  · rw [withEndStatus_eq]
    exact (h.toEndReads hr).emptyReadEnds hr fun _ => raise_transportError 3 _

end Sys2Proof.Machine
end

section
/-! STATUS.short (R255): the status query with a frame of the host. One law for each thing that Q_RX can do with a read,
then the run over a query's discard frames, and the query's independence of RES_*, which every end of it writes. -/

namespace Sys2Proof.Machine

open Sys2Proof.Statements

variable {s t : State} {len : OutLen} {frame : List Byte} {reads : List (List Byte)} {bytes : List Byte}
variable {p p' : Port} {q : Sequencer} {r : Result} {aux : Byte}

/-! ## Q_RX (R380, R381, R502) -/

theorem code_eq_phaseNumber (phase : SeqPhase) : phase.code = phaseNumber phase := by
  cases phase <;> rfl

theorem raise_step (code : ResultCode) (aux : Byte) (s : State) : raise .step code aux s = raisedInStep s code aux := by
  simp only [raise, faultRecord, code_eq_phaseNumber]

theorem mismatchAux_some {n : Nat} {par : Params} (h : mismatchAux par n bytes = some aux) :
    (bytes.length = 0 ∧ aux = 0) ∨ (bytes.length ≠ 0 ∧ bytes.length ≤ 3 ∧ aux = 1) ∨
      (4 ≤ bytes.length ∧ bytes.getD 3 0 = 0 ∧ par.maxDiscard ≤ n ∧ aux = 2) ∨
      (4 ≤ bytes.length ∧ bytes.length < 20 ∧ bytes.getD 3 0 ≠ 0 ∧ aux = 3) := by
  unfold mismatchAux at h
  split_ifs at h with hempty hrunt hzero hmax hshort <;> cases h
  · exact .inl ⟨hempty, rfl⟩
  · exact .inr (.inl ⟨hempty, hrunt, rfl⟩)
  · exact .inr (.inr (.inl ⟨by omega, hzero, hmax, rfl⟩))
  · exact .inr (.inr (.inr ⟨by omega, hshort, hzero, rfl⟩))

/-- Any other read is a discard frame within the bound, or a whole candidate. -/
theorem mismatchAux_none {n : Nat} {par : Params} (h : mismatchAux par n bytes = none) :
    (4 ≤ bytes.length ∧ bytes.getD 3 0 = 0 ∧ n < par.maxDiscard) ∨ (20 ≤ bytes.length ∧ bytes.getD 3 0 ≠ 0) := by
  unfold mismatchAux at h
  split_ifs at h with hempty hrunt hzero hmax hshort
  · exact .inl ⟨by omega, hzero, by omega⟩
  · exact .inr ⟨by omega, hzero⟩

/-- The query completes with the status of its candidate (R385). -/
theorem completeQuery_valid (hv : s.st.valid = true) :
    completeQuery s =
      { s with
        seq := { s.seq with op := .none, phase := .idle, pass := 0 }
        res := ⟨statusCode s.st, ⟨0, 0, 0, 0⟩, statusData s.st⟩ } := by
  have hcode : (if s.st.err != 0 then .deviceRejected else .ok : ResultCode) = statusCode s.st := by
    simp [statusCode, hv]
  have hdata : [1, s.st.err, s.st.prof] = statusData s.st := by
    rw [statusData, if_pos hv]
  rw [completeQuery, hcode, hdata]
  rfl

/-- A whole candidate is a status, and the query completes with it. -/
theorem takeCandidate_query (hop : s.seq.op = .query) (h20 : s.ilen.val = 20) :
    takeCandidate s = completeQuery { s with st := decodedStatus s } := by
  rw [takeCandidate, if_neg (by omega), decodedStatus, if_pos h20]
  exact if_pos hop

theorem stepQRx_fail (ha : (portOf s).answerRead (inCall s s.par.timeout) = .fail) :
    stepQRx s = raisedInStep (withPort s ((portOf s).afterIn (inCall s s.par.timeout))) .transportError 2 := by
  rw [← nextReadAnswer_eq] at ha
  rw [stepQRx, recv, ha, ← raise_step, ← afterRead_eq]

section
variable (ha : (portOf s).answerRead (inCall s s.par.timeout) = .ok bytes)
include ha

/-- The class of what Q_RX read (R129). -/
theorem frameClass_afterGot :
    frameClass (afterGot bytes s) =
      if bytes.length = 0 then .empty
      else if bytes.length ≤ 3 then .runt
      else if bytes.getD 3 0 = 0 then .discard
      else .candidate :=
  frameClass_storeInbound (nextReadAnswer_length (nextReadAnswer_eq .. ▸ ha)) _

theorem stepQRx_discard (h4 : 4 ≤ bytes.length) (h0 : bytes.getD 3 0 = 0) (hmax : s.seq.disc < s.par.maxDiscard) :
    stepQRx s = { afterGot bytes s with seq := { s.seq with disc := s.seq.disc + 1 } } := by
  have hclass : frameClass (afterGot bytes s) = .discard := by
    rw [frameClass_afterGot ha, if_neg (by omega), if_neg (by omega), if_pos h0]
  rw [stepQRx, recv_ok _ ha]
  simp only [hclass]
  exact if_neg (Nat.not_lt.mpr hmax)

theorem stepQRx_candidate (h20 : bytes.length = 20) (h0 : bytes.getD 3 0 ≠ 0) (hop : s.seq.op = .query) :
    stepQRx s =
      { afterGot bytes s with
        st := statusOf bytes
        seq := { s.seq with op := .none, phase := .idle, pass := 0 }
        res := ⟨statusCode (statusOf bytes), ⟨0, 0, 0, 0⟩, statusData (statusOf bytes)⟩ } := by
  have hclass : frameClass (afterGot bytes s) = .candidate := by
    rw [frameClass_afterGot ha, if_neg (by omega), if_neg (by omega), if_neg h0]
  have hread : Received bytes (afterGot bytes s).ibuf (afterGot bytes s).ilen := received_storeInbound h20.le _
  rw [stepQRx, recv_ok _ ha]
  simp only [hclass]
  rw [takeCandidate_query (s := afterGot bytes s) hop (hread.1.trans h20), decodedStatus_of_received hread]
  exact completeQuery_valid (by rw [statusOf, if_pos h20])

/-- The four mismatches of the query; a discard frame too many is counted before it is one (R502). -/
theorem stepQRx_mismatch (hm : mismatchAux s.par s.seq.disc bytes = some aux) :
    stepQRx s =
      raisedInStep
        { afterGot bytes s with seq := { s.seq with disc := s.seq.disc + if aux = 2 then 1 else 0 } }
        .protocolMismatch aux := by
  have hclass := frameClass_afterGot ha
  rw [stepQRx, recv_ok _ ha, ← raise_step]
  rcases mismatchAux_some hm with ⟨h, rfl⟩ | ⟨h, h3, rfl⟩ | ⟨h4, h0, hmax, rfl⟩ | ⟨h4, h20, h0, rfl⟩
  · rw [if_pos h] at hclass
    simp only [hclass]
    rfl
  · rw [if_neg h, if_pos h3] at hclass
    simp only [hclass]
    rfl
  · rw [if_neg (by omega), if_neg (by omega), if_pos h0] at hclass
    simp only [hclass]
    exact if_pos (Nat.lt_succ_of_le hmax)
  · rw [if_neg (by omega), if_neg (by omega), if_neg h0] at hclass
    simp only [hclass]
    exact if_pos (by rw [storeInbound_ilen]; omega)

end

/-! ## The run over a query's discard frames (R380, R394) -/

theorem seqStep_qRx (h : s.seq.phase = .qRx) : seqStep s = stepQRx s := by
  simp only [seqStep, h]

theorem seqRun_qRx (n : Nat) (hphase : s.seq.phase = .qRx) : seqRun (n + 1) s = seqRun n (stepQRx s) := by
  rw [seqRun_succ n (by rw [hphase]; nofun), seqStep_qRx hphase]

/-- A frame of the query's reads that is skipped (R381). -/
abbrev IsDiscard (bytes : List Byte) : Prop := 4 ≤ bytes.length ∧ bytes.getD 3 0 = 0

theorem AfterReads.discard (h : AfterReads s len frame reads p q r t)
    (ha : p.answerRead (inCall s s.par.timeout) = .ok bytes) (hd : IsDiscard bytes) (hmax : q.disc < s.par.maxDiscard) :
    AfterReads s len frame (reads ++ [bytes]) (p.afterIn (inCall s s.par.timeout)) { q with disc := q.disc + 1 } r
      (stepQRx t) := by
  rw [stepQRx_discard (h.answerRead.trans ha) hd.1 hd.2 (h.seq ▸ h.par ▸ hmax), h.seq]
  exact (h.read ha).setSeq _

/-- Discard frames take the run on, one for each step. -/
theorem seqRun_discards (n : Nat) {discards : List (List Byte)} (hd : ∀ d ∈ discards, IsDiscard d)
    (hex : exchanges s p (discards.map .got) = some p') (hphase : q.phase = .qRx)
    (hmax : q.disc + discards.length ≤ s.par.maxDiscard) (h : AfterReads s len frame reads p q r t) :
    ∃ u, seqRun (n + discards.length) t = seqRun n u ∧
      AfterReads s len frame (reads ++ discards) p' { q with disc := q.disc + discards.length } r u := by
  induction discards generalizing reads p q t with
  | nil =>
    cases hex
    exact ⟨t, rfl, (List.append_nil reads).symm ▸ h⟩
  | cons first rest ih =>
    obtain ⟨hfirst, hrest⟩ := List.forall_mem_cons.mp hd
    obtain ⟨ha, hex⟩ := exchanges_got.mp hex
    rw [List.length_cons] at hmax
    obtain ⟨u, hu, hreads⟩ :=
      ih hrest hex (q := { q with disc := q.disc + 1 }) hphase (by dsimp only; omega) (h.discard ha hfirst (by omega))
    refine ⟨u, ?_, ?_⟩
    · rw [List.length_cons, ← Nat.add_assoc, seqRun_qRx _ (h.seq ▸ hphase), hu]
    · simpa [Nat.add_assoc, Nat.add_comm] using hreads

/-- The step bound leaves room for every query (R394). -/
theorem maxDiscard_lt_seqBound (par : Params) : par.maxDiscard + 1 < seqBound par := by
  have h : par.maxDiscard + 2 ≤ par.maxPolls * (par.maxDiscard + 2) := Nat.le_mul_of_pos_left _ (Nat.succ_pos _)
  rw [seqBound]
  omega

/-! ## The frame's query (R255) -/

/-- The sequencer in Q_RX of a status query, `n` discard frames counted. -/
abbrev querySeq (s : State) (n : Nat) : Sequencer :=
  { s.seq with op := .query, phase := .qRx, pass := 0, disc := n }

/-- The query that a frame in OBUF starts. -/
abbrev queryStart (frame : List Byte) (s : State) : State := startQuery (finish .ok [] (loadFrame .short frame s))

/-- A ready session passes the admission of a query (R512). -/
theorem firstFailing_transportChecks (hr : Ready s) : firstFailing (transportChecks s) = none :=
  transportChecks_pass hr.1 hr.2 []

theorem exec_statusShort (hr : Ready s) {sw : Nibble} (hsw : sw ≠ 0) (dev feat a b c : Byte) :
    exec (.statusShort dev feat sw a b c) s =
      seqRun (seqBound s.par) (sendQuery (queryStart (shortBytes dev feat 0x4 (sw.setWidth 8) a b c) s)) := by
  let u : State := finish .ok [] (loadFrame .short (shortBytes dev feat 0x4 (sw.setWidth 8) a b c) s)
  have hbuilt : buildShort dev feat (nibbleOperand 0x4) (nibbleOperand sw) a b c s = .next u :=
    (builds_short rfl dev feat sw a b c s).built hsw
  have hpar : (sendQuery (startQuery u)).par = s.par := (sendQuery_grows (s := s) {}).par
  show andThen (buildShort dev feat (nibbleOperand 0x4) (nibbleOperand sw) a b c s) _ = _
  rw [hbuilt, andThen_ok rfl, guarded_pass (firstFailing_transportChecks (s := u) hr), runSequencer, hpar]

/-- The frame's send, with both answers of the transport (R380, Q_TX). -/
theorem sendQuery_queryStart (hlen : frame.length = 7) (s : State) :
    sendQuery (queryStart frame s) =
      let u := withFrame (withPort s ((portOf s).afterOut (outCall s frame))) (overlay s.obuf frame) .short
      if (portOf s).answerWrite (outCall s frame) = .ok frame.length
      then { u with seq := querySeq s 0, res := okWith [] }
      else raisedInStep (inQuery u .qTx 0) .transportError 1 := by
  let v : State := { queryStart frame s with seq := { (queryStart frame s).seq with disc := 0 } }
  have hout : frameOut v = frame := frameOut_loadFrame .short frame s hlen
  have hanswer : nextWriteAnswer v = (portOf s).answerWrite (outCall s frame) := hout ▸ nextWriteAnswer_eq (s := v) nofun
  have hafter : afterWrite v = withPort v ((portOf s).afterOut (outCall s frame)) := hout ▸ afterWrite_eq (s := v) nofun
  rw [← hanswer, hlen, sendQuery_eq, sendThen]
  rcases send_cases .step v with ⟨ha, hs⟩ | ⟨ha, hs⟩
  · rw [hs, hafter]
    exact (if_pos ha).symm
  · rw [hs, hafter, raise_step]
    exact (if_neg ha).symm

section
variable (hr : Ready s) {sw : Nibble} (hsw : sw ≠ 0) {dev feat a b c : Byte}
variable (hframe : frame = shortBytes dev feat 0x4 (sw.setWidth 8) a b c)
include hr hsw hframe

/-- The frame is sent and some discard frames are read; Q_RX reads on. -/
theorem statusShort_reaches {discards : List (List Byte)} (hd : ∀ d ∈ discards, IsDiscard d)
    (hmax : discards.length ≤ s.par.maxDiscard)
    (hex : exchanges s (portOf s) (.sent frame :: discards.map .got) = some p) :
    ∃ n t, exec (.statusShort dev feat sw a b c) s = seqRun n (stepQRx t) ∧
      AfterReads s .short frame discards p (querySeq s discards.length) (okWith []) t := by
  have hlen : frame.length = 7 := hframe ▸ rfl
  obtain ⟨ha, hex⟩ := exchanges_sent.mp hex
  have hsent : AfterReads s .short frame [] ((portOf s).afterOut (outCall s frame)) (querySeq s 0) (okWith [])
      (sendQuery (queryStart frame s)) :=
    ⟨_, s.ibuf, s.ilen, s.free, carries_overlay (by omega) _, holdsLast_nil s,
      (sendQuery_queryStart hlen s).trans (if_pos ha)⟩
  obtain ⟨n, hn⟩ := Nat.exists_eq_add_of_lt ((Nat.succ_le_succ hmax).trans_lt (maxDiscard_lt_seqBound s.par))
  obtain ⟨t, ht, hreads⟩ := seqRun_discards (n + 2) hd hex rfl (by simpa using hmax) hsent
  refine ⟨n + 1, t, ?_, by simpa [querySeq] using hreads⟩
  have hbound : seqBound s.par = n + 2 + discards.length := by omega
  rw [exec_statusShort hr hsw, ← hframe, hbound, ht, seqRun_qRx _ (hreads.seq ▸ rfl)]

/-- The candidate behind the discard frames completes the query (R381, R385). -/
theorem statusShort_completes {q : Query} (hgood : q.Good s.par)
    (hex : exchanges s (portOf s) (q.exchanges frame) = some p) :
    ∃ (buf ibuf : FrameBuf) (ilen : Fin 21) (free : Nat),
      Carries frame s.obuf.toList buf ∧ Received q.candidate ibuf ilen ∧
      exec (.statusShort dev feat sw a b c) s =
        .next { withTraffic s p buf .short ibuf ilen free with
          st := statusOf q.candidate
          seq := { s.seq with op := .none, phase := .idle, pass := 0, disc := q.discards.length }
          res := ⟨statusCode (statusOf q.candidate), ⟨0, 0, 0, 0⟩, statusData (statusOf q.candidate)⟩ } := by
  obtain ⟨hmax, hd, h20, h0⟩ := hgood
  obtain ⟨mid, hskipped, hlast⟩ := exchanges_append.mp hex
  obtain ⟨ha, ⟨⟩⟩ := exchanges_got.mp hlast
  obtain ⟨n, t, ht, hreads⟩ := statusShort_reaches hr hsw hframe hd hmax hskipped
  obtain ⟨buf, ibuf, ilen, free, hbuf, hread, heq⟩ := hreads.read ha
  refine ⟨buf, ibuf, ilen, free, hbuf, hread.2 _ List.getLast?_concat, ?_⟩
  rw [ht, stepQRx_candidate (hreads.answerRead.trans ha) h20 h0 (hreads.seq ▸ rfl), hreads.seq, heq]
  exact seqRun_idle n rfl

theorem statusShort_sendFails (ha : SendFails s frame) :
    ∃ buf : FrameBuf, Carries frame s.obuf.toList buf ∧
      exec (.statusShort dev feat sw a b c) s =
        .next (raisedInStep (inQuery (withFrame (withPort s ((portOf s).afterOut (outCall s frame))) buf .short) .qTx 0)
          .transportError 1) := by
  have hlen : frame.length = 7 := hframe ▸ rfl
  refine ⟨_, carries_overlay (by omega) _, ?_⟩
  rw [exec_statusShort hr hsw, ← hframe, (sendQuery_queryStart hlen s).trans (if_neg ha)]
  exact seqRun_idle _ rfl

variable {discards : List (List Byte)} (hd : ∀ d ∈ discards, IsDiscard d) (hmax : discards.length ≤ s.par.maxDiscard)
variable (hex : exchanges s (portOf s) (.sent frame :: discards.map .got) = some p)
include hd hmax hex

theorem statusShort_readFails (ha : p.answerRead (inCall s s.par.timeout) = .fail) :
    ∃ (buf ibuf : FrameBuf) (ilen : Fin 21) (free : Nat),
      Carries frame s.obuf.toList buf ∧ HoldsLast s discards ibuf ilen ∧
      exec (.statusShort dev feat sw a b c) s =
        .next (raisedInStep
          (inQuery (withTraffic s (p.afterIn (inCall s s.par.timeout)) buf .short ibuf ilen free) .qRx discards.length)
          .transportError 2) := by
  obtain ⟨n, t, ht, hreads⟩ := statusShort_reaches hr hsw hframe hd hmax hex
  obtain ⟨buf, ibuf, ilen, free, hbuf, hlast, heq⟩ := hreads.callFailed
  refine ⟨buf, ibuf, ilen, free, hbuf, hlast, ?_⟩
  rw [ht, stepQRx_fail (hreads.answerRead.trans ha), heq]
  exact seqRun_idle n rfl

theorem statusShort_mismatch (ha : p.answerRead (inCall s s.par.timeout) = .ok bytes)
    (hm : mismatchAux s.par discards.length bytes = some aux) :
    ∃ (buf ibuf : FrameBuf) (ilen : Fin 21) (free : Nat),
      Carries frame s.obuf.toList buf ∧ Received bytes ibuf ilen ∧
      exec (.statusShort dev feat sw a b c) s =
        .next (raisedInStep
          (inQuery (withTraffic s (p.afterIn (inCall s s.par.timeout)) buf .short ibuf ilen free) .qRx
            (discards.length + if aux = 2 then 1 else 0))
          .protocolMismatch aux) := by
  obtain ⟨n, t, ht, hreads⟩ := statusShort_reaches hr hsw hframe hd hmax hex
  have hm' : mismatchAux t.par t.seq.disc bytes = some aux := by rw [hreads.par, hreads.seq, hm]
  obtain ⟨buf, ibuf, ilen, free, hbuf, hread, heq⟩ := hreads.read ha
  refine ⟨buf, ibuf, ilen, free, hbuf, hread.2 _ List.getLast?_concat, ?_⟩
  rw [ht, stepQRx_mismatch (hreads.answerRead.trans ha) hm', hreads.seq, heq]
  exact seqRun_idle n rfl

end

/-- Settles O55: the send, the run over the discard frames, and one law of Q_RX for each end. -/
theorem statusFrameQueries : Obligations.StatusFrameQueries := by
  intro s dev feat sw a b c frame hr hsw hframe
  exact ⟨fun q p hgood hex => statusShort_completes hr hsw hframe hgood hex, statusShort_sendFails hr hsw hframe,
    fun discards p hmax hd hex => ⟨statusShort_readFails hr hsw hframe hd hmax hex,
      fun bytes aux => statusShort_mismatch hr hsw hframe hd hmax hex⟩⟩

/-! ## The query does not read RES_* (R381, R382) -/

/-- Q_RX ends the query in a state that does not depend on RES_*, or counts a discard frame and leaves RES_* alone. -/
theorem stepQRx_setRes (hop : s.seq.op = .query) :
    ((stepQRx s).seq.phase = .idle ∧ ∀ r, stepQRx { s with res := r } = stepQRx s) ∨
    (s.seq.disc < s.par.maxDiscard ∧ (stepQRx s).seq = { s.seq with disc := s.seq.disc + 1 } ∧
      (stepQRx s).par = s.par ∧ ∀ r, stepQRx { s with res := r } = { stepQRx s with res := r }) := by
  cases ha : (portOf s).answerRead (inCall s s.par.timeout) with
  | fail =>
    rw [stepQRx_fail ha]
    exact .inl ⟨rfl, fun r => stepQRx_fail (s := { s with res := r }) ha⟩
  | ok bytes =>
    cases hm : mismatchAux s.par s.seq.disc bytes with
    | some aux =>
      rw [stepQRx_mismatch ha hm]
      exact .inl ⟨rfl, fun r => stepQRx_mismatch (s := { s with res := r }) ha hm⟩
    | none =>
      rcases mismatchAux_none hm with ⟨h4, h0, hmax⟩ | ⟨h20, h0⟩
      · rw [stepQRx_discard ha h4 h0 hmax]
        exact .inr ⟨hmax, rfl, rfl, fun r => stepQRx_discard (s := { s with res := r }) ha h4 h0 hmax⟩
      · have hlen : bytes.length = 20 := Nat.le_antisymm (nextReadAnswer_length (nextReadAnswer_eq .. ▸ ha)) h20
        rw [stepQRx_candidate ha hlen h0 hop]
        exact .inl ⟨rfl, fun r => stepQRx_candidate (s := { s with res := r }) ha hlen h0 hop⟩

/-- A run in Q_RX depends neither on RES_* nor on how much of the step bound is left beyond a query's reads. -/
theorem seqRun_qRx_setRes {n m : Nat} (hphase : s.seq.phase = .qRx) (hop : s.seq.op = .query)
    (hdisc : s.seq.disc ≤ s.par.maxDiscard) (hn : s.par.maxDiscard < n + s.seq.disc)
    (hm : s.par.maxDiscard < m + s.seq.disc) (r r' : Result) :
    seqRun n { s with res := r } = seqRun m { s with res := r' } := by
  induction n generalizing s m with
  | zero => omega
  | succ n ih =>
    obtain ⟨m, rfl⟩ : ∃ k, m = k + 1 := Nat.exists_eq_succ_of_ne_zero (by omega)
    rw [seqRun_qRx (s := { s with res := r }) n hphase, seqRun_qRx (s := { s with res := r' }) m hphase]
    rcases stepQRx_setRes hop with ⟨hidle, hres⟩ | ⟨hlt, hseq, hpar, hres⟩
    · rw [hres r, hres r', seqRun_idle n hidle, seqRun_idle m hidle]
    · have hcount : (stepQRx s).seq.disc = s.seq.disc + 1 := by rw [hseq]
      rw [hres r, hres r']
      refine ih ?_ ?_ ?_ ?_ ?_
      · rw [hseq, hphase]
      · rw [hseq, hop]
      all_goals
        rw [hpar, hcount]
        omega

/-- A query from its send on depends on neither, too. -/
theorem seqRun_sendQuery_setRes {n m : Nat} (hop : s.seq.op = .query) (hn : s.par.maxDiscard < n)
    (hm : s.par.maxDiscard < m) (r r' : Result) :
    seqRun n (sendQuery { s with res := r }) = seqRun m (sendQuery { s with res := r' }) := by
  let u : State := { s with seq := { s.seq with disc := 0 } }
  by_cases ha : nextWriteAnswer u = .ok u.olen.bytes
  · have hsent (r : Result) : sendQuery { s with res := r } = { toPhase .qRx (afterWrite u) with res := r } := by
      have hs : send .step { u with res := r } = .ok (afterWrite { u with res := r }) := if_pos ha
      rw [sendQuery_eq, sendThen, hs]
      rfl
    rw [hsent, hsent]
    exact seqRun_qRx_setRes (s := toPhase .qRx (afterWrite u)) rfl hop (Nat.zero_le _) hn hm r r'
  · have hfailed (r : Result) : sendQuery { s with res := r } = raise .step .transportError 1 (afterWrite u) := by
      have hs : send .step { u with res := r } = .error (raise .step .transportError 1 (afterWrite { u with res := r })) :=
        if_neg ha
      rw [sendQuery_eq, sendThen, hs]
      rfl
    rw [hfailed, hfailed, seqRun_idle _ rfl, seqRun_idle _ rfl]

theorem lowNibble_nibbleOperand (n : Nibble) : lowNibble (nibbleOperand n) = n := by
  apply BitVec.eq_of_toNat_eq
  rw [lowNibble, BitVec.extractLsb'_toNat, nibbleOperand, BitVec.toNat_setWidth_of_le (by decide)]
  exact Nat.mod_eq_of_lt n.isLt

/-- The block's own status query is the frame that R132 gives it. -/
theorem statusFrame_eq_statusBytes (s : State) : statusFrame s = statusBytes s := by
  rw [statusFrame, ← lowNibble_nibbleOperand 0x4, ← lowNibble_nibbleOperand s.ses.swid, shortFrame_lowNibble]
  rfl

/-- Settles O56: the two start the same query but for RES_* and one step of the bound. -/
theorem statusFrameIsTheQuery : Obligations.StatusFrameIsTheQuery := by
  intro s hr hsw
  have hframe : exec (.statusShort 0xFF s.par.featProfile s.ses.swid s.par.statusA s.par.statusB s.par.statusC) s =
      seqRun (seqBound s.par) (sendQuery (queryStart (statusBytes s) s)) := exec_statusShort hr hsw ..
  have hquery : exec .seqQueryStatus s = seqRun (seqBound s.par) (startQuery s) :=
    guarded_pass (body := fun s => runSequencer (startQuery s)) (firstFailing_transportChecks hr)
  have hstart : seqStep (startQuery s) = sendQuery { queryStart (statusBytes s) s with res := s.res } := by
    rw [← statusFrame_eq_statusBytes]
    rfl
  have hbound := maxDiscard_lt_seqBound s.par
  obtain ⟨n, hn⟩ : ∃ n, seqBound s.par = n + 1 := Nat.exists_eq_succ_of_ne_zero (by omega)
  rw [hframe, hquery, hn, seqRun_succ n (s := startQuery s) nofun, hstart]
  have hroom : s.par.maxDiscard < n := by omega
  exact seqRun_sendQuery_setRes (s := queryStart (statusBytes s) s) rfl (Nat.lt_succ_of_lt hroom) hroom (okWith []) s.res

end Sys2Proof.Machine
end

section
/-! The checksum engine: the model's byte step and stream in the terms of the spec, the running checksum over a list of
commands, and CRC_BLOCK with its one-byte law. -/

namespace Sys2Proof.Machine

open Sys2Proof.Statements

/-! ## The checksum in the terms of the spec (R299) -/

theorem hiByte_eq_highByte (c : Half) : hiByte c = highByte c := rfl

theorem loByte_eq_lowByte (c : Half) : loByte c = lowByte c := rfl

theorem halfBytes_eq (c : Half) : halfBytes c = [highByte c, lowByte c] := by
  rw [halfBytes, hiByte_eq_highByte, loByte_eq_lowByte]

theorem crcBits_eq_iterate (n : Nat) (c : Half) : crcBits n c = crcShift^[n] c := by
  induction n generalizing c with
  | zero => rfl
  | succ n ih => exact ih (crcBit c)

theorem crcStep_eq_crcByte : crcStep = crcByte :=
  funext₂ fun c b => crcBits_eq_iterate 8 (c ^^^ (b.setWidth 16 <<< 8))

theorem crc16_eq_crcOf (bytes : List Byte) : crc16 bytes = crcOf bytes := by
  rw [crc16, crcFold, crcStep_eq_crcByte, crcOf]

theorem readBytes_zero (m : Memory) (n : Nat) : m.readBytes 0 n = (List.range n).map m.read := by
  simp only [Memory.readBytes, Nat.zero_add]

theorem blockChecksum_eq_checksumOf (m : Memory) : blockChecksum m = checksumOf m.read := by
  rw [blockChecksum, readBytes_zero, crc16_eq_crcOf, checksumOf]

/-! ## The running checksum (R300, R301, R303) -/

theorem exec_crcInit (s : State) : exec .crcInit s = .next { s with crc := 0xFFFF, res := okWith [] } := rfl

theorem exec_crcUpdate (b : Byte) (s : State) :
    exec (.crcUpdate b) s = .next { s with crc := crcByte s.crc b, res := okWith [] } := by
  rw [← crcStep_eq_crcByte]
  rfl

theorem exec_crcRead (s : State) :
    exec .crcRead s = .next { s with res := okWith [highByte s.crc, lowByte s.crc] } := by
  rw [← halfBytes_eq]
  rfl

/-- Settles O26: the three commands' laws. -/
theorem crcCommands : Obligations.CrcCommands := fun s b =>
  ⟨exec_crcInit s, exec_crcUpdate b s, exec_crcRead s⟩

theorem execAll_cons {i : Instr} {s t : State} (h : exec i s = .next t) (rest : List Instr) :
    execAll (i :: rest) s = execAll rest t := by
  rw [execAll, h]

/-- A CRC_UPDATE for each byte of a stream folds the bytes into CRC, in order. -/
theorem execAll_crcUpdates (bytes : List Byte) (rest : List Instr) (s : State) (c : Half) :
    execAll (bytes.map .crcUpdate ++ rest) { s with crc := c, res := okWith [] } =
      execAll rest { s with crc := bytes.foldl crcByte c, res := okWith [] } := by
  induction bytes generalizing c with
  | nil => rfl
  | cons b bytes ih => exact (execAll_cons (exec_crcUpdate b _) _).trans (ih (crcByte c b))

/-- Settles O27, by induction on the stream; the check value is computed. -/
theorem crcStream : Obligations.CrcStream := by
  refine ⟨fun s bytes => ?_, by decide +kernel⟩
  rw [List.cons_append, execAll_cons (exec_crcInit s), execAll_crcUpdates, execAll_cons (exec_crcRead _)]
  rfl

/-! ## Written lines (R505) -/

/-- CRC_BLOCK's check passes when every line is written. -/
theorem completeCheck_full {s : State} (h : s.lineValid = 0xFFFF) : completeCheck s = none := by
  rw [completeCheck, h]
  rfl

/-- The check's aux is the lowest line that is not written. -/
theorem completeCheck_of_lowestUnwritten {s : State} {k : Nat} (h : LowestUnwritten s k) :
    completeCheck s = some (.blockIncomplete, BitVec.ofNat 8 k) := by
  obtain ⟨hk, hunwritten, hbelow⟩ := h
  have hfind : lowestUnwritten s.lineValid = some k :=
    List.find?_range_eq_some.mpr ⟨by simpa using hunwritten, List.mem_range.mpr hk, fun j hj => by simpa using hbelow j hj⟩
  rw [completeCheck, hfind]

/-! ## CRC_BLOCK (R302) -/

theorem exec_crcBlock_guarded (s : State) :
    exec .crcBlock s = guarded [completeCheck s] s fun s =>
      .next (finish .ok (halfBytes (blockChecksum s.blk)) (sealBlock s)) := rfl

/-- With every line written, CRC_BLOCK seals the block with its checksum. -/
theorem exec_crcBlock {s : State} {c : Half} (hc : blockChecksum s.blk = c) (h : s.lineValid = 0xFFFF) :
    exec .crcBlock s = .next (finish .ok (halfBytes c) (writeSeal c s)) := by
  have hpass : firstFailing [completeCheck s] = none := by rw [completeCheck_full h, firstFailing_none, firstFailing_nil]
  rw [exec_crcBlock_guarded, guarded_pass hpass, sealBlock, hc]

/-- With a line not written, CRC_BLOCK is refused (R505). -/
theorem exec_crcBlock_incomplete {s : State} {k : Nat} (h : LowestUnwritten s k) (hidle : SequencerIdle s) :
    Refuses .crcBlock s .blockIncomplete (BitVec.ofNat 8 k) := by
  have hfail : firstFailing [completeCheck s] = some (.blockIncomplete, BitVec.ofNat 8 k) := by
    rw [completeCheck_of_lowestUnwritten h, firstFailing_some]
  rw [Refuses, exec_crcBlock_guarded,
    guarded_refusal hidle (List.forall_mem_singleton.mpr properCheck_complete) hfail]

theorem read_writeTrailer_eq_withTrailer (m : Memory) (c : Half) (a : Nat) :
    (writeTrailer m c).read a = withTrailer c m.read a := by
  rw [read_writeTrailer, hiByte_eq_highByte, loByte_eq_lowByte, withTrailer]
  by_cases h : a = 255
  · subst h
    rfl
  · rw [if_neg h, if_neg h]

theorem finish_writeSeal (data : List Byte) (c : Half) (s : State) :
    finish .ok data (writeSeal c s) = { s with crc := c, blk := writeTrailer s.blk c, res := okWith data } := rfl

/-- CRC_BLOCK in the terms of the spec. -/
theorem exec_crcBlock_eq {s : State} (h : s.lineValid = 0xFFFF) :
    exec .crcBlock s =
      .next { s with
        crc := checksumOf s.blk.read
        blk := writeTrailer s.blk (checksumOf s.blk.read)
        res := okWith [highByte (checksumOf s.blk.read), lowByte (checksumOf s.blk.read)] } := by
  rw [exec_crcBlock (blockChecksum_eq_checksumOf s.blk) h, halfBytes_eq, finish_writeSeal]

/-- Settles O28: the completeness check decides between the seal and the refusal. -/
theorem crcBlockSeals : Obligations.CrcBlockSeals := fun s =>
  ⟨fun h => ⟨_, read_writeTrailer_eq_withTrailer s.blk _, exec_crcBlock_eq h⟩,
    fun _ hk hidle => exec_crcBlock_incomplete hk hidle⟩

/-- In a canonical block the trailer written again is the trailer. -/
theorem writeTrailer_writeTrailer {m : Memory} (hm : m.wf) (c : Half) :
    writeTrailer (writeTrailer m c) c = writeTrailer m c := by
  have hwf := wf_writeTrailer hm c
  refine memoryIsCanonical _ _ (wf_writeTrailer hwf c) hwf fun a _ => ?_
  simp only [read_writeTrailer]
  split_ifs <;> rfl

/-- From a canonical block, the same seal put in twice. -/
theorem finish_writeSeal_twice {s : State} (hm : s.blk.wf) (data : List Byte) (c : Half) :
    finish .ok data (writeSeal c (finish .ok data (writeSeal c s))) = finish .ok data (writeSeal c s) := by
  simp only [finish_writeSeal, writeTrailer_writeTrailer hm]

/-- Settles O29: the trailer is not part of the sum, so the second seal is the same seal. -/
theorem crcBlockTwice : Obligations.CrcBlockTwice := by
  intro s hm hfull
  obtain ⟨c, hc⟩ : ∃ c, blockChecksum s.blk = c := ⟨_, rfl⟩
  have hc' : blockChecksum (finish .ok (halfBytes c) (writeSeal c s)).blk = c := by
    rw [finish_blk, writeSeal_blk, blockChecksum_writeTrailer, hc]
  exact ⟨_, exec_crcBlock hc hfull, by rw [exec_crcBlock hc' hfull, finish_writeSeal_twice hm]⟩

/-! ## One changed byte (R305) -/

/-- Streams that differ in one byte have different checksums. -/
theorem crcFold_inj_byte {c : Half} {front back : List Byte} {b b' : Byte}
    (h : crcFold c (front ++ b :: back) = crcFold c (front ++ b' :: back)) : b = b' := by
  rw [crcFold_append, crcFold_append] at h
  exact crcStep_injective_byte _ (crcFold_injective back h)

theorem Memory.readBytes_add (m : Memory) (a n k : Nat) :
    m.readBytes a (n + k) = m.readBytes a n ++ m.readBytes (a + n) k := by
  simp [Memory.readBytes, List.range_add, Function.comp_def, Nat.add_assoc]

theorem Memory.readBytes_succ (m : Memory) (a n : Nat) :
    m.readBytes a (n + 1) = m.read a :: m.readBytes (a + 1) n := by
  simp [Memory.readBytes, List.range_succ_eq_map, Function.comp_def, Nat.add_assoc, Nat.add_comm 1]

/-- The bytes the checksum covers, parted at one of them. -/
theorem blockChecksum_parted (m : Memory) {a n : Nat} (h : 254 = a + (n + 1)) :
    blockChecksum m = crc16 (m.readBytes 0 a ++ m.read a :: m.readBytes (a + 1) n) := by
  rw [blockChecksum, h, Memory.readBytes_add, Nat.zero_add, Memory.readBytes_succ]

/-- Blocks that differ at one offset the checksum covers have different checksums. -/
theorem blockChecksum_ne {m m' : Memory} {a : Nat} (ha : a < 254) (hne : m.read a ≠ m'.read a)
    (hsame : ∀ o, o < 254 → o ≠ a → m.read o = m'.read o) : blockChecksum m ≠ blockChecksum m' := by
  obtain ⟨n, hn⟩ : ∃ n, 254 = a + (n + 1) := Nat.exists_eq_add_of_lt ha
  have hfront : m.readBytes 0 a = m'.readBytes 0 a := Memory.readBytes_congr fun i hi => hsame _ (by omega) (by omega)
  have hback : m.readBytes (a + 1) n = m'.readBytes (a + 1) n :=
    Memory.readBytes_congr fun i hi => hsame _ (by omega) (by omega)
  intro heq
  rw [blockChecksum_parted m hn, blockChecksum_parted m' hn, hfront, hback] at heq
  exact hne (crcFold_inj_byte heq)

/-- The trailer determines the checksum. -/
theorem trailer_inj {m m' : Memory} {c c' : Half}
    (h : ((writeTrailer m c).read 254, (writeTrailer m c).read 255) =
      ((writeTrailer m' c').read 254, (writeTrailer m' c').read 255)) : c = c' := by
  simp only [read_writeTrailer] at h
  obtain ⟨hhi, hlo⟩ := Prod.mk.inj h
  rw [← halfLE_bytes c, ← halfLE_bytes c']
  exact congrArg₂ halfLE hlo hhi

/-- Settles O30: each byte step is one-to-one, so the checksums differ, and the trailer tells them apart. -/
theorem oneByteChangesTrailer : Obligations.OneByteChangesTrailer := by
  intro s s' a hfull hfull' ha hne hsame
  exact ⟨_, _, exec_crcBlock rfl hfull, exec_crcBlock rfl hfull', fun h => blockChecksum_ne ha hne hsame (trailer_inj h)⟩

end Sys2Proof.Machine
end

section
/-! The rows of the transition table (R390): one law for each phase, saying the transport call that its step makes and
everything the step can leave in SEQ_*. The table itself and the step bound follow from the rows. -/

namespace Sys2Proof.Machine

open Sys2Proof.Statements

variable {s u : State}

/-! ## Steps of the transport port -/

/-- `u` is a state inside a step of `s`: a raise there is a raise of `s` (R510, R517). -/
structure InStep (s u : State) : Prop where
  phase     : u.seq.phase = s.seq.phase := by rfl
  pass      : u.seq.pass = s.seq.pass := by rfl
  line      : u.seq.line = s.seq.line := by rfl
  ses       : u.ses = s.ses := by rfl
  blk       : u.blk = s.blk := by rfl
  crc       : u.crc = s.crc := by rfl
  lineValid : u.lineValid = s.lineValid := by rfl

theorem InStep.raisedAt (h : InStep s u) (code : ResultCode) (aux : Byte) :
    RaisedAt s (raisedInStep u code aux) code aux := by
  refine ⟨?_, rfl, rfl, rfl, ?_, h.blk, h.crc, h.lineValid⟩
  · rw [← h.phase, ← h.pass, ← h.line]
  · rw [← h.ses]

/-- A send step once the frame is in OBUF: one TxWrite, then what follows a whole send, or a raise (R380). -/
theorem sendThen_row (h : InStep s u) (hhist : u.history = s.history) {use : State → State}
    (huse : ∀ v, (use v).history = v.history) :
    OneOut s (sendThen use u) ∧
      ((sendThen use u).seq = (use (afterWrite u)).seq ∨ ∃ aux, RaisedAt s (sendThen use u) .transportError aux) := by
  unfold sendThen
  rcases send_cases .step u with ⟨-, hs⟩ | ⟨-, hs⟩ <;> rw [hs]
  · exact ⟨⟨_, by rw [huse, afterWrite_history, hhist]⟩, .inl rfl⟩
  · exact ⟨⟨_, by rw [raise_history, afterWrite_history, hhist]⟩,
      .inr ⟨1, raise_step .transportError 1 _ ▸ InStep.raisedAt { h with } _ _⟩⟩

/-- A receive step of a pass: one TxRead, then what follows a response, or a raise (R380). -/
theorem paced_row {use : State → State} (huse : ∀ v, (use v).history = v.history) (s : State) :
    OneIn s (paced use s) ∧
      ((∃ v, v.seq = s.seq ∧ paced use s = use v) ∨ ∃ aux, RaisedAt s (paced use s) .transportError aux) := by
  rcases paced_cases use s with ⟨bytes, -, -, -, h⟩ | ⟨-, h⟩ | ⟨-, h⟩ <;> rw [h]
  · exact ⟨⟨_, _, huse _⟩, .inl ⟨storeInbound bytes (afterRead s.par.timeout s), rfl, rfl⟩⟩
  · exact ⟨⟨_, _, rfl⟩, .inr ⟨3, raise_step .transportError 3 _ ▸ InStep.raisedAt {} _ _⟩⟩
  · exact ⟨⟨_, _, rfl⟩, .inr ⟨2, raise_step .transportError 2 _ ▸ InStep.raisedAt {} _ _⟩⟩

/-! ## The rows (R390) -/

theorem stepQTx_row (s : State) :
    OneOut s (stepQTx s) ∧
      ((stepQTx s).seq = { s.seq with disc := 0, phase := .qRx } ∨ ∃ aux, RaisedAt s (stepQTx s) .transportError aux) :=
  sendThen_row (u := { loadFrame .short (statusFrame s) s with seq := { s.seq with disc := 0 } }) {} rfl fun _ => rfl

theorem stepPrep_row (s : State) :
    (stepPrep s).history = s.history ∧
      ∃ wid, (stepPrep s).seq = { s.seq with wid := wid, line := 0, phase := .bTx } := by
  refine ⟨by simp [stepPrep, beginPass], ?_⟩
  simp only [stepPrep, beginPass, sealBlock_seq, insertWriteId]
  split
  · exact ⟨_, rfl⟩
  · exact ⟨s.seq.wid, rfl⟩

theorem stepBTx_row (s : State) :
    OneOut s (stepBTx s) ∧
      ((stepBTx s).seq = { s.seq with phase := .bRx } ∨ ∃ aux, RaisedAt s (stepBTx s) .transportError aux) :=
  stepBTx_eq s ▸ sendThen_row {} rfl fun _ => rfl

theorem stepLTx_row (s : State) :
    OneOut s (stepLTx s) ∧
      ((stepLTx s).seq = { s.seq with phase := .lRx } ∨ ∃ aux, RaisedAt s (stepLTx s) .transportError aux) :=
  stepLTx_eq s ▸ sendThen_row {} rfl fun _ => rfl

theorem stepETx_row (s : State) :
    OneOut s (stepETx s) ∧
      ((stepETx s).seq = { s.seq with rxleft := 3, phase := .eRx } ∨
        ∃ aux, RaisedAt s (stepETx s) .transportError aux) :=
  stepETx_eq s ▸ sendThen_row {} rfl fun _ => rfl

theorem stepBRx_row (s : State) :
    OneIn s (stepBRx s) ∧
      ((stepBRx s).seq = { s.seq with phase := .lTx } ∨ ∃ aux, RaisedAt s (stepBRx s) .transportError aux) := by
  obtain ⟨hin, ⟨v, hv, h⟩ | hraised⟩ := paced_row (use := toPhase .lTx) (fun _ => rfl) s
  · exact ⟨hin, .inl (by rw [stepBRx, h, toPhase_seq, hv])⟩
  · exact ⟨hin, .inr hraised⟩

theorem stepLRx_row (s : State) :
    OneIn s (stepLRx s) ∧
      ((stepLRx s).seq =
          { s.seq with line := s.seq.line + 1, phase := if s.seq.line + 1 = 16 then .eTx else .lTx } ∨
        ∃ aux, RaisedAt s (stepLRx s) .transportError aux) := by
  obtain ⟨hin, ⟨v, hv, h⟩ | hraised⟩ := paced_row (use := nextLine) (fun _ => rfl) s
  · exact ⟨hin, .inl (by rw [stepLRx, h, nextLine, hv])⟩
  · exact ⟨hin, .inr hraised⟩

/-- The End status of the response goes to END_ST1 or END_ST2, and nothing else is written (R380, E_RX). -/
theorem takeEndStatus_eq (s : State) :
    ∃ st1 st2, takeEndStatus s = { s with seq := { s.seq with endSt1 := st1, endSt2 := st2 } } := by
  unfold takeEndStatus recordEndStatus
  split_ifs
  · exact ⟨decodedStatus s, s.seq.endSt2, rfl⟩
  · exact ⟨s.seq.endSt1, decodedStatus s, rfl⟩
  · exact ⟨s.seq.endSt1, s.seq.endSt2, rfl⟩

/-- After the last End response: the next pass, or completion (R380, E_RX; R385). -/
def endPass (s : State) : State :=
  if s.seq.pass < s.seq.passes then { s with seq := { s.seq with pass := s.seq.pass + 1, phase := .prep } }
  else completeRecord s

theorem nextResponse_eq (s : State) :
    nextResponse s =
      let u := { takeEndStatus s with seq := { (takeEndStatus s).seq with rxleft := (takeEndStatus s).seq.rxleft - 1 } }
      if u.seq.rxleft = 0 then endPass u else u := rfl

theorem stepERx_row (s : State) :
    OneIn s (stepERx s) ∧
      ((s.seq.rxleft - 1 ≠ 0 ∧ ∃ st1 st2,
          (stepERx s).seq = { s.seq with endSt1 := st1, endSt2 := st2, rxleft := s.seq.rxleft - 1 }) ∨
       (s.seq.rxleft - 1 = 0 ∧ s.seq.pass < s.seq.passes ∧ ∃ st1 st2,
          (stepERx s).seq =
            { s.seq with endSt1 := st1, endSt2 := st2, rxleft := 0, pass := s.seq.pass + 1, phase := .prep }) ∨
       (s.seq.rxleft - 1 = 0 ∧ ¬ s.seq.pass < s.seq.passes ∧ (stepERx s).seq.phase = .idle ∧
          (stepERx s).seq.rxleft = 0 ∧ ((stepERx s).res.code = .ok ∨ (stepERx s).res.code = .deviceRejected)) ∨
       ∃ aux, RaisedAt s (stepERx s) .transportError aux) := by
  have hhist (v : State) : (nextResponse v).history = v.history := by
    obtain ⟨st1, st2, htaken⟩ := takeEndStatus_eq v
    rw [nextResponse_eq, htaken]
    dsimp only [endPass]
    split_ifs <;> rfl
  obtain ⟨hin, ⟨v, hv, h⟩ | hraised⟩ := paced_row hhist s
  · refine ⟨hin, ?_⟩
    obtain ⟨st1, st2, htaken⟩ := takeEndStatus_eq v
    rw [stepERx, h, nextResponse_eq, htaken]
    dsimp only [endPass]
    rw [hv]
    split_ifs with hleft hpass
    · exact .inr (.inl ⟨hleft, hpass, st1, st2, by rw [hleft]⟩)
    · exact .inr (.inr (.inl ⟨hleft, hpass, rfl, hleft, Status.resultCode_cases _⟩))
    · exact .inl ⟨hleft, st1, st2, rfl⟩
  · exact ⟨hin, .inr (.inr (.inr hraised))⟩

/-! ## Q_RX (R380, R381) -/

/-- A query's status: the end of SEQ_QUERY_STATUS, or of a profile poll (R380, Q_RX). -/
def useStatus (s : State) : State := if s.seq.op = .query then completeQuery s else pollStatus s

/-- A whole candidate is a status (R381). -/
theorem stepQRx_status {bytes : List Byte} (ha : (portOf s).answerRead (inCall s s.par.timeout) = .ok bytes)
    (h20 : bytes.length = 20) (h0 : bytes.getD 3 0 ≠ 0) :
    stepQRx s = useStatus { afterGot bytes s with st := statusOf bytes } := by
  have hclass : frameClass (afterGot bytes s) = .candidate := by
    rw [frameClass_afterGot ha, if_neg (by omega), if_neg (by omega), if_neg h0]
  have hread : Received bytes (afterGot bytes s).ibuf (afterGot bytes s).ilen := received_storeInbound h20.le _
  have hlen : (afterGot bytes s).ilen.val = 20 := hread.1.trans h20
  rw [stepQRx, recv_ok _ ha]
  simp only [hclass]
  rw [takeCandidate, if_neg (by rw [hlen]; decide), ← decodedStatus_of_received hread, decodedStatus, if_pos hlen]
  rfl

theorem code_completeQuery (s : State) :
    (completeQuery s).res.code = .ok ∨ (completeQuery s).res.code = .deviceRejected := by
  unfold completeQuery
  split_ifs
  · exact .inr rfl
  · exact .inl rfl

/-- A profile other than 0 starts the first pass (R380, R384). -/
theorem pollStatus_found (h : s.st.prof ≠ 0) :
    pollStatus s =
      { s with seq := { s.seq with polls := s.seq.polls + 1, tgt := s.st.prof, pass := 1, phase := .prep } } :=
  if_pos (bne_iff_ne.mpr h)

/-- Profile 0 starts another query, while there are queries left (R380, R384). -/
theorem pollStatus_again (h : s.st.prof = 0) (hmax : s.seq.polls + 1 < s.par.maxPolls) :
    pollStatus s = { s with seq := { s.seq with polls := s.seq.polls + 1, phase := .qTx } } := by
  rw [pollStatus, h]
  exact if_neg (Nat.not_le.mpr hmax)

theorem pollStatus_exhausted (h : s.st.prof = 0) (hmax : s.par.maxPolls ≤ s.seq.polls + 1) :
    pollStatus s =
      raisedInStep { s with seq := { s.seq with polls := s.seq.polls + 1 } } .profilePollExhausted
        (BitVec.ofNat 8 (s.seq.polls + 1)) := by
  rw [pollStatus, h, ← raise_step]
  exact if_pos hmax

/-- What Q_RX goes on to: another read, the end of the query, the first pass or the next query (R390). -/
def QueryGoesOn (s t : State) : Prop :=
  (s.seq.disc < s.par.maxDiscard ∧ t.seq = { s.seq with disc := s.seq.disc + 1 }) ∨
  (s.seq.op = .query ∧ t.seq.phase = .idle ∧ (t.res.code = .ok ∨ t.res.code = .deviceRejected)) ∨
  (s.seq.op ≠ .query ∧ t.st.prof ≠ 0 ∧
    t.seq = { s.seq with polls := s.seq.polls + 1, tgt := t.st.prof, pass := 1, phase := .prep }) ∨
  (s.seq.op ≠ .query ∧ t.st.prof = 0 ∧ s.seq.polls + 1 < s.par.maxPolls ∧
    t.seq = { s.seq with polls := s.seq.polls + 1, phase := .qTx })

/-- The raises of Q_RX (R390). -/
def QueryRaises (s t : State) : Prop :=
  (∃ aux, RaisedAt s t .protocolMismatch aux) ∨ (∃ aux, RaisedAt s t .profilePollExhausted aux) ∨
    (∃ aux, RaisedAt s t .transportError aux)

/-- What a status leads to, in a state inside a step of `s` with the same sequencer and parameters. -/
theorem useStatus_row (h : InStep s u) (hseq : u.seq = s.seq) (hpar : u.par = s.par) :
    (useStatus u).history = u.history ∧ (QueryGoesOn s (useStatus u) ∨ QueryRaises s (useStatus u)) := by
  unfold useStatus
  rw [QueryGoesOn, ← hseq, ← hpar]
  split_ifs with hop
  · exact ⟨rfl, .inl (.inr (.inl ⟨hop, rfl, code_completeQuery u⟩))⟩
  · by_cases hprof : u.st.prof = 0
    · by_cases hmax : u.seq.polls + 1 < u.par.maxPolls
      · rw [pollStatus_again hprof hmax]
        exact ⟨rfl, .inl (.inr (.inr (.inr ⟨hop, hprof, hmax, rfl⟩)))⟩
      · rw [pollStatus_exhausted hprof (Nat.not_lt.mp hmax)]
        exact ⟨rfl, .inr (.inr (.inl ⟨_, InStep.raisedAt { h with } _ _⟩))⟩
    · rw [pollStatus_found hprof]
      exact ⟨rfl, .inl (.inr (.inr (.inl ⟨hop, hprof, rfl⟩)))⟩

theorem stepQRx_row (s : State) :
    OneIn s (stepQRx s) ∧ (QueryGoesOn s (stepQRx s) ∨ QueryRaises s (stepQRx s)) := by
  cases ha : (portOf s).answerRead (inCall s s.par.timeout) with
  | fail =>
    rw [stepQRx_fail ha]
    exact ⟨⟨_, _, rfl⟩, .inr (.inr (.inr ⟨2, InStep.raisedAt {} _ _⟩))⟩
  | ok bytes =>
    cases hm : mismatchAux s.par s.seq.disc bytes with
    | some aux =>
      rw [stepQRx_mismatch ha hm]
      exact ⟨⟨_, _, rfl⟩, .inr (.inl ⟨aux, InStep.raisedAt {} _ _⟩)⟩
    | none =>
      rcases mismatchAux_none hm with ⟨h4, h0, hmax⟩ | ⟨h20, h0⟩
      · rw [stepQRx_discard ha h4 h0 hmax]
        exact ⟨⟨_, _, rfl⟩, .inl (.inl ⟨hmax, rfl⟩)⟩
      · have hlen : bytes.length = 20 := Nat.le_antisymm (nextReadAnswer_length (nextReadAnswer_eq .. ▸ ha)) h20
        rw [stepQRx_status ha hlen h0]
        obtain ⟨hhist, hrow⟩ := useStatus_row (s := s) (u := { afterGot bytes s with st := statusOf bytes }) {} rfl rfl
        exact ⟨⟨_, _, hhist⟩, hrow⟩

/-! ## The table (R390) -/

/-- Settles O36: row by row, from the law of each phase. -/
theorem transitionTable : Obligations.TransitionTable := by
  intro s
  unfold Transition seqStep
  cases hphase : s.seq.phase with
  | idle => rfl
  | qTx =>
    obtain ⟨hout, h⟩ := stepQTx_row s
    exact ⟨hout, h.imp_left fun h => by rw [h]⟩
  | qRx =>
    obtain ⟨hin, (⟨-, h⟩ | h | ⟨hop, hprof, h⟩ | ⟨hop, hprof, hmax, h⟩) | h⟩ := stepQRx_row s
    · exact ⟨hin, .inl ⟨by rw [h, ← hphase], by rw [h]⟩⟩
    · exact ⟨hin, .inr (.inl ⟨h.2.1, h.1, h.2.2⟩)⟩
    · exact ⟨hin, .inr (.inr (.inl ⟨by rw [h], hop, hprof, by rw [h], by rw [h]⟩))⟩
    · exact ⟨hin, .inr (.inr (.inr (.inl ⟨by rw [h], hop, hprof, by rw [h]; exact hmax⟩)))⟩
    · exact ⟨hin, .inr (.inr (.inr (.inr h)))⟩
  | prep =>
    obtain ⟨hhist, wid, h⟩ := stepPrep_row s
    exact ⟨hhist, by rw [h], by rw [h]⟩
  | bTx =>
    obtain ⟨hout, h⟩ := stepBTx_row s
    exact ⟨hout, h.imp_left fun h => by rw [h]⟩
  | bRx =>
    obtain ⟨hin, h⟩ := stepBRx_row s
    exact ⟨hin, h.imp_left fun h => by rw [h]⟩
  | lTx =>
    obtain ⟨hout, h⟩ := stepLTx_row s
    exact ⟨hout, h.imp_left fun h => by rw [h]⟩
  | lRx =>
    obtain ⟨hin, h | h⟩ := stepLRx_row s
    · refine ⟨hin, ?_⟩
      by_cases hline : s.seq.line + 1 = 16
      · exact .inr (.inl ⟨by rw [h, if_pos hline], by rw [h], by rw [h]; exact hline⟩)
      · exact .inl ⟨by rw [h, if_neg hline], by rw [h], by rw [h]; exact hline⟩
    · exact ⟨hin, .inr (.inr h)⟩
  | eTx =>
    obtain ⟨hout, h⟩ := stepETx_row s
    exact ⟨hout, h.imp_left fun h => by rw [h]; exact ⟨rfl, rfl⟩⟩
  | eRx =>
    obtain ⟨hin, ⟨hleft, _, _, h⟩ | ⟨hleft, hpass, _, _, h⟩ | ⟨-, hpass, hidle, hzero, hcode⟩ | h⟩ := stepERx_row s
    · exact ⟨hin, .inl ⟨by rw [h, ← hphase], by rw [h], by rw [h]; exact hleft⟩⟩
    · exact ⟨hin, .inr (.inl ⟨by rw [h], by rw [h], hpass, by rw [h]⟩)⟩
    · exact ⟨hin, .inr (.inr (.inl ⟨hidle, hzero, hpass, hcode⟩))⟩
    · exact ⟨hin, .inr (.inr (.inr h))⟩

end Sys2Proof.Machine
end

section
/-! The step bound (R394): `stepsLeft` counts the steps that a sequencer command has at most left, and each step takes
one away. So every sequencer command ends, and with it every instruction. -/

namespace Sys2Proof.Machine

open Sys2Proof.Statements

/-! ## The steps left (R394) -/

/-- The steps after a status query: none for SEQ_QUERY_STATUS, and for SEQ_WRITE_CONFIG the other polls and two passes
of 39 steps (R393, R394). -/
def stepsAfterQuery (p : Params) (q : Sequencer) : Nat :=
  if q.op = .query then 0 else (p.maxPolls - (q.polls + 1)) * (p.maxDiscard + 2) + 2 * 39

/-- The steps of the passes after the one in progress. -/
def stepsAfterPass (q : Sequencer) : Nat := 39 * (q.passes.toNat - q.pass.toNat)

/-- The most steps that lie before IDLE: two for each line that is not sent, one for each read that is due. -/
def stepsLeft (p : Params) (q : Sequencer) : Nat :=
  match q.phase with
  | .idle => 0
  | .qTx => p.maxDiscard + 2 + stepsAfterQuery p q
  | .qRx => p.maxDiscard + 1 - q.disc + stepsAfterQuery p q
  | .prep => 39 + stepsAfterPass q
  | .bTx => 2 * (16 - q.line.toNat) + 6 + stepsAfterPass q
  | .bRx => 2 * (16 - q.line.toNat) + 5 + stepsAfterPass q
  | .lTx => 2 * (16 - q.line.toNat) + 4 + stepsAfterPass q
  | .lRx => 2 * (16 - q.line.toNat) + 3 + stepsAfterPass q
  | .eTx => 4 + stepsAfterPass q
  | .eRx => q.rxleft.toNat + stepsAfterPass q

/-- What the count needs of the registers: a query counts its discard frames within the bound, a write has two passes,
a line to send is one of the 16, and an End response is due in E_RX. -/
def Counted (p : Params) (q : Sequencer) : Prop :=
  match q.phase with
  | .idle | .prep | .eTx => True
  | .qTx => q.op = .query ∨ q.passes.toNat ≤ 2
  | .qRx => q.disc ≤ p.maxDiscard ∧ (q.op = .query ∨ q.passes.toNat ≤ 2)
  | .bTx | .bRx | .lTx | .lRx => q.line.toNat < 16
  | .eRx => q.rxleft ≠ 0

/-- A step from `q` to `q'` that the count allows. -/
def Descends (p : Params) (q q' : Sequencer) : Prop := Counted p q' ∧ stepsLeft p q' < stepsLeft p q

section
variable {p : Params} {q q' : Sequencer}

theorem toNat_ne_zero_of_ne {w : Nat} {x : BitVec w} (h : x ≠ 0) : x.toNat ≠ 0 := fun h0 =>
  h (BitVec.eq_of_toNat_eq (by simpa using h0))

theorem stepsLeft_pos (hc : Counted p q) (h : q.phase ≠ .idle) : 0 < stepsLeft p q := by
  unfold Counted at hc
  unfold stepsLeft
  cases hphase : q.phase with
  | idle => exact absurd hphase h
  | qRx =>
    simp only [hphase] at hc
    dsimp only
    omega
  | eRx =>
    simp only [hphase] at hc
    have := toNat_ne_zero_of_ne hc
    dsimp only
    omega
  | qTx | prep | bTx | bRx | lTx | lRx | eTx =>
    dsimp only
    omega

/-- A command that ends takes all its steps away. -/
theorem descends_idle (hc : Counted p q) (h : q.phase ≠ .idle) (h' : q'.phase = .idle) : Descends p q q' := by
  refine ⟨by simp only [Counted, h'], ?_⟩
  rw [show stepsLeft p q' = 0 by simp only [stepsLeft, h']]
  exact stepsLeft_pos hc h

/-- One more poll takes a query's steps from those after it. -/
theorem stepsAfterQuery_again (hop : q.op ≠ .query) (hpolls : q.polls + 1 < p.maxPolls) :
    p.maxDiscard + 2 + stepsAfterQuery p { q with polls := q.polls + 1, phase := .qTx } = stepsAfterQuery p q := by
  obtain ⟨n, hn⟩ : ∃ n, p.maxPolls - (q.polls + 1) = n + 1 := Nat.exists_eq_succ_of_ne_zero (by omega)
  have hn' : p.maxPolls - (q.polls + 1 + 1) = n := by omega
  simp only [stepsAfterQuery, if_neg hop, hn, hn', Nat.succ_mul]
  omega

/-- Q_RX goes on with fewer steps left. -/
theorem QueryGoesOn.descends {s t : State} (h : QueryGoesOn s t) (hphase : s.seq.phase = .qRx)
    (hc : Counted s.par s.seq) : Descends s.par s.seq t.seq := by
  have hc' := hc
  simp only [Counted, hphase] at hc'
  obtain ⟨hdisc, hpasses⟩ := hc'
  obtain ⟨hmax, h⟩ | ⟨-, hidle, -⟩ | ⟨hop, -, h⟩ | ⟨hop, -, hpolls, h⟩ := h
  · rw [h]
    refine ⟨by simp only [Counted, hphase]; exact ⟨hmax, hpasses⟩, ?_⟩
    simp only [stepsLeft, hphase, stepsAfterQuery]
    omega
  · exact descends_idle hc (by rw [hphase]; nofun) hidle
  · rw [h]
    have htwo := hpasses.resolve_left hop
    refine ⟨trivial, ?_⟩
    simp only [stepsLeft, hphase, stepsAfterQuery, if_neg hop, stepsAfterPass]
    rw [show (1 : BitVec 2).toNat = 1 from rfl]
    omega
  · rw [h]
    refine ⟨hpasses, ?_⟩
    have hagain := stepsAfterQuery_again hop hpolls
    simp only [stepsLeft, hphase]
    omega

/-- The next line, or the End after the last one. -/
theorem descends_nextLine (hphase : q.phase = .lRx) (hc : Counted p q) :
    Descends p q { q with line := q.line + 1, phase := if q.line + 1 = 16 then .eTx else .lTx } := by
  simp only [Counted, hphase] at hc
  have hline : (q.line + 1).toNat = q.line.toNat + 1 := by
    rw [BitVec.toNat_add]
    exact Nat.mod_eq_of_lt (by simp; omega)
  split_ifs with h
  · refine ⟨trivial, ?_⟩
    simp only [stepsLeft, hphase, stepsAfterPass]
    omega
  · have hne : q.line.toNat + 1 ≠ 16 := fun he => h (BitVec.eq_of_toNat_eq (hline.trans he))
    refine ⟨by simp only [Counted, hline]; omega, ?_⟩
    simp only [stepsLeft, hphase, stepsAfterPass, hline]
    omega

/-- One End response fewer is due. -/
theorem toNat_rxleft_sub_one {x : BitVec 2} (h : x ≠ 0) : (x - 1).toNat + 1 = x.toNat := by
  revert h
  revert x
  decide

/-- The next pass is one fewer after it. -/
theorem toNat_nextPass {pass passes : BitVec 2} (h : pass < passes) :
    passes.toNat - (pass + 1).toNat + 1 = passes.toNat - pass.toNat := by
  revert h
  revert pass passes
  decide

end

/-- Each step of a sequencer command in progress takes at least one of its steps away. -/
theorem seqStep_descends {s : State} (hidle : s.seq.phase ≠ .idle) (hc : Counted s.par s.seq) :
    Descends s.par s.seq (seqStep s).seq := by
  have raised {t : State} {code : ResultCode} (h : ∃ aux, RaisedAt s t code aux) : Descends s.par s.seq t.seq := by
    obtain ⟨aux, -, -, hphase, -⟩ := h
    exact descends_idle hc hidle hphase
  unfold seqStep
  cases hphase : s.seq.phase with
  | idle => exact absurd hphase hidle
  | qTx =>
    obtain ⟨-, h | h⟩ := stepQTx_row s
    · simp only [Counted, hphase] at hc
      simp only [h, Descends, Counted, stepsLeft, hphase, stepsAfterQuery]
      exact ⟨⟨Nat.zero_le _, hc⟩, by omega⟩
    · exact raised h
  | qRx =>
    obtain ⟨-, h | h | h | h⟩ := stepQRx_row s
    · exact h.descends hphase hc
    · exact raised h
    · exact raised h
    · exact raised h
  | prep =>
    obtain ⟨-, _, h⟩ := stepPrep_row s
    simp only [h, Descends, Counted, stepsLeft, hphase, stepsAfterPass]
    exact ⟨by decide, by rw [show (0 : BitVec 5).toNat = 0 from rfl]; omega⟩
  | bTx =>
    obtain ⟨-, h | h⟩ := stepBTx_row s
    · simp only [Counted, hphase] at hc
      simp only [h, Descends, Counted, stepsLeft, hphase, stepsAfterPass]
      exact ⟨hc, by omega⟩
    · exact raised h
  | bRx =>
    obtain ⟨-, h | h⟩ := stepBRx_row s
    · simp only [Counted, hphase] at hc
      simp only [h, Descends, Counted, stepsLeft, hphase, stepsAfterPass]
      exact ⟨hc, by omega⟩
    · exact raised h
  | lTx =>
    obtain ⟨-, h | h⟩ := stepLTx_row s
    · simp only [Counted, hphase] at hc
      simp only [h, Descends, Counted, stepsLeft, hphase, stepsAfterPass]
      exact ⟨hc, by omega⟩
    · exact raised h
  | lRx =>
    obtain ⟨-, h | h⟩ := stepLRx_row s
    · exact h ▸ descends_nextLine hphase hc
    · exact raised h
  | eTx =>
    obtain ⟨-, h | h⟩ := stepETx_row s
    · simp only [h, Descends, Counted, stepsLeft, hphase, stepsAfterPass]
      exact ⟨by decide, by rw [show (3 : BitVec 2).toNat = 3 from rfl]; omega⟩
    · exact raised h
  | eRx =>
    have hdue : s.seq.rxleft ≠ 0 := by simpa only [Counted, hphase] using hc
    have hleft := toNat_rxleft_sub_one hdue
    obtain ⟨-, ⟨hmore, _, _, h⟩ | ⟨-, hpass, _, _, h⟩ | ⟨-, -, hend, -⟩ | h⟩ := stepERx_row s
    · simp only [h, Descends, Counted, stepsLeft, hphase, stepsAfterPass]
      exact ⟨hmore, by omega⟩
    · have hnext := toNat_nextPass hpass
      simp only [h, Descends, Counted, stepsLeft, hphase, stepsAfterPass]
      exact ⟨trivial, by omega⟩
    · exact descends_idle hc hidle hend
    · exact raised h

/-! ## Every run ends (R394) -/

/-- A command in an outcome has ended: it answers a next state. -/
def Answers (answer : Outcome) : Prop := ∃ t, answer = .next t

theorem seqRun_answers {n : Nat} {s : State} (hc : Counted s.par s.seq) (hn : stepsLeft s.par s.seq ≤ n) :
    Answers (seqRun n s) := by
  induction n generalizing s with
  | zero =>
    have hidle : s.seq.phase = .idle := by
      by_contra h
      exact absurd (stepsLeft_pos hc h) (by omega)
    exact ⟨s, seqRun_idle 0 hidle⟩
  | succ n ih =>
    by_cases hidle : s.seq.phase = .idle
    · exact ⟨s, seqRun_idle _ hidle⟩
    · obtain ⟨hc', hlt⟩ := seqStep_descends hidle hc
      rw [seqRun_succ n hidle]
      have hpar : (seqStep s).par = s.par := (seqStep_grows s).par
      exact ih (by rw [hpar]; exact hc') (by rw [hpar]; omega)

/-- A start of the sequencer that leaves room for all its steps. -/
def Startable (s : State) : Prop := Counted s.par s.seq ∧ stepsLeft s.par s.seq ≤ seqBound s.par

theorem Startable.answers {s : State} (h : Startable s) : Answers (runSequencer s) := seqRun_answers h.1 h.2

/-- The step bound is that of all the polls and two passes. -/
theorem seqBound_eq (p : Params) :
    seqBound p = p.maxDiscard + 2 + ((p.maxPolls - 1) * (p.maxDiscard + 2) + 2 * 39) := by
  have hsucc : p.maxPolls = p.maxPolls - 1 + 1 := rfl
  rw [seqBound, hsucc, Nat.succ_mul, Nat.add_sub_cancel]
  omega

section
variable (s : State)

theorem startable_query : Startable (startQuery s) := by
  refine ⟨.inl rfl, ?_⟩
  have hbound := seqBound_eq s.par
  show s.par.maxDiscard + 2 + 0 ≤ seqBound s.par
  omega

theorem startable_pass (profile widmode wid : Byte) : Startable (startPass profile widmode wid s) := by
  refine ⟨trivial, ?_⟩
  have hbound := seqBound_eq s.par
  show 39 + 39 * (1 - 1) ≤ seqBound s.par
  omega

theorem startable_write (profile : Byte) : Startable (startWrite profile s) := by
  have hbound := seqBound_eq s.par
  by_cases h : profile = 0
  · subst h
    refine ⟨.inr (Nat.le_refl 2), ?_⟩
    show s.par.maxDiscard + 2 + ((s.par.maxPolls - 1) * (s.par.maxDiscard + 2) + 2 * 39) ≤ seqBound s.par
    omega
  · have hphase : (startWrite profile s).seq.phase = .prep := if_neg h
    have hpass : (startWrite profile s).seq.pass = 1 := if_neg h
    have hpasses : (startWrite profile s).seq.passes = 2 := rfl
    refine ⟨by simp only [Counted, hphase], ?_⟩
    simp only [stepsLeft, hphase, stepsAfterPass, hpass, hpasses, startWrite_par]
    show 39 + 39 * (2 - 1) ≤ seqBound s.par
    omega

end

/-- A start with room in the bound comes to IDLE within it. -/
theorem Startable.reaches_idle {s start : State} (h : Startable start) (hpar : start.par = s.par) :
    ∃ n, n ≤ s.par.maxPolls * (s.par.maxDiscard + 2) + 2 * 39 ∧ (seqStep^[n] start).seq.phase = .idle := by
  obtain ⟨t, ht⟩ := h.answers
  obtain ⟨k, hk, rfl, hidle⟩ := seqRun_next ht
  rw [hpar, seqBound] at hk
  exact ⟨k, hk, hidle⟩

/-- Settles O44: each of the three starts has room in the bound for all its steps. -/
theorem sequencerStepBound : Obligations.SequencerStepBound := by
  intro s profile widmode wid start hstart
  simp only [List.mem_cons, List.not_mem_nil, or_false] at hstart
  obtain rfl | rfl | rfl := hstart
  · exact (startable_query s).reaches_idle (startQuery_par s)
  · exact (startable_pass s profile widmode wid).reaches_idle (startPass_par ..)
  · exact (startable_write s profile).reaches_idle (startWrite_par ..)

/-! ## Every instruction ends (R510) -/

section
variable {s : State}

theorem answers_next (t : State) : Answers (.next t) := ⟨t, rfl⟩

theorem answers_guarded {checks : List Check} {body : State → Outcome} (h : Answers (body s)) :
    Answers (guarded checks s body) := by
  rcases guarded_cases checks s body with ⟨-, he⟩ | ⟨code, aux, -, he⟩ <;> rw [he]
  · exact h
  · exact answers_next _

/-- A command that does all its work at once. -/
theorem answers_guarded_next {checks : List Check} {body : State → State} :
    Answers (guarded checks s fun s => .next (body s)) :=
  answers_guarded (body := fun s => .next (body s)) (answers_next _)

theorem Answers.andThen {first : Outcome} {second : State → Outcome} (h : Answers first)
    (h' : ∀ u, Answers (second u)) : Answers (andThen first second) := by
  obtain ⟨u, rfl⟩ := h
  by_cases hok : u.res.code = .ok
  · rw [andThen_ok hok]
    exact h' u
  · rw [andThen_stop hok]
    exact answers_next u

theorem answers_transmit (s : State) : Answers (transmit s) := by
  refine answers_guarded ?_
  rcases send_cases .outside s with ⟨-, h⟩ | ⟨-, h⟩ <;> rw [h] <;> exact answers_next _

theorem answers_receive (tsel : Byte) (s : State) : Answers (receive tsel s) := by
  refine answers_guarded ?_
  rcases recv_cases .outside (timeoutOf tsel s.par) s with ⟨bytes, -, -, h⟩ | ⟨-, h⟩ <;> rw [h] <;> exact answers_next _

theorem answers_readResponses (n : Nat) (s : State) : Answers (readResponses n s) := by
  induction n generalizing s with
  | zero => exact answers_next s
  | succ n ih =>
    refine (answers_receive 0 s).andThen fun u => ?_
    split
    · exact answers_next u
    · exact ih u

theorem answers_requireResponse (s : State) : Answers (requireResponse s) :=
  (answers_receive 0 s).andThen fun _ => answers_next _

theorem answers_endResponses (s : State) : Answers (endResponses s) :=
  (answers_requireResponse s).andThen fun _ =>
    (answers_requireResponse _).andThen fun second => (answers_requireResponse second).andThen fun _ => answers_next _

theorem answers_sessionOpen (ifnum epIn epOut swid : Byte) (s : State) :
    Answers (execSessionOpen ifnum epIn epOut swid s) := answers_guarded_next

theorem answers_crcBlock (s : State) : Answers (execCrcBlock s) := answers_guarded_next

theorem answers_blkWrite (line : Byte) (data : Payload) (s : State) : Answers (execBlkWrite line data s) :=
  answers_guarded_next

theorem answers_blkRead (line : Byte) (s : State) : Answers (execBlkRead line s) := answers_guarded_next

theorem answers_blkBuild (poll : Byte) (d0 d1 d2 d3 d4 : Half) (profile : Byte) (s : State) :
    Answers (execBlkBuild poll d0 d1 d2 d3 d4 profile s) := answers_guarded_next

theorem answers_buildShort (dev feat fn sw a b c : Byte) (s : State) :
    Answers (buildShort dev feat fn sw a b c s) := answers_guarded_next

theorem answers_buildLong (dev feat fn sw : Byte) (payload : Payload) (s : State) :
    Answers (buildLong dev feat fn sw payload s) := answers_guarded_next

theorem answers_emitShort (fn : Nibble) (dev feat : Byte) (sw : Nibble) (a b c : Byte) (s : State) :
    Answers (emitShort fn dev feat sw a b c s) := (answers_buildShort ..).andThen answers_transmit

theorem answers_emitLong (fn : Nibble) (dev feat : Byte) (sw : Nibble) (payload : Payload) (s : State) :
    Answers (emitLong fn dev feat sw payload s) := (answers_buildLong ..).andThen answers_transmit

/-- A query whose frame is sent by the start has one step fewer to go (R255). -/
theorem startable_sendQuery (s : State) : Startable (sendQuery (startQuery s)) := by
  have hpar : (sendQuery (startQuery s)).par = s.par := (sendQuery_grows (s := s) {}).par
  obtain ⟨-, h | ⟨aux, -, -, hidle, -⟩⟩ :=
    sendThen_row (s := startQuery s) (u := { startQuery s with seq.disc := 0 }) {} rfl (use := toPhase .qRx)
      fun _ => rfl
  · have hseq : (sendQuery (startQuery s)).seq = { (startQuery s).seq with disc := 0, phase := .qRx } := h
    have hbound := seqBound_eq s.par
    rw [Startable, hseq, hpar]
    refine ⟨⟨Nat.zero_le _, .inl rfl⟩, ?_⟩
    show s.par.maxDiscard + 1 - 0 + 0 ≤ seqBound s.par
    omega
  · have hphase : (sendQuery (startQuery s)).seq.phase = .idle := hidle
    exact ⟨by simp only [Counted, hphase], by simp only [stepsLeft, hphase]; exact Nat.zero_le _⟩

theorem exec_answers (i : Instr) (s : State) : Answers (exec i s) := by
  cases i with
  | sessionClose | decStatus | classify | crcInit | crcUpdate | crcRead => exact answers_next _
  | sessionOpen => exact answers_sessionOpen _ _ _ _ s
  | encShort => exact answers_buildShort _ _ _ _ _ _ _ s
  | encLong => exact answers_buildLong _ _ _ _ _ s
  | crcBlock => exact answers_crcBlock s
  | blkWrite => exact answers_blkWrite _ _ s
  | blkRead => exact answers_blkRead _ s
  | blkBuild => exact answers_blkBuild _ _ _ _ _ _ _ s
  | xferSend => exact answers_transmit s
  | xferRecv => exact answers_receive _ s
  | seqQueryStatus => exact answers_guarded (startable_query s).answers
  | seqRecordPass profile widmode wid =>
    exact answers_guarded (body := fun s => runSequencer (startPass profile widmode wid s))
      (startable_pass s _ _ _).answers
  | seqWriteConfig profile =>
    exact answers_guarded (body := fun s => runSequencer (startWrite profile s)) (startable_write s _).answers
  | statusShort =>
    exact (answers_buildShort _ _ _ _ _ _ _ s).andThen fun u => answers_guarded (startable_sendQuery u).answers
  | profileSwitchShort => exact (answers_emitShort _ _ _ _ _ _ _ s).andThen (answers_readResponses 3)
  | setColorLong => exact (answers_emitLong _ _ _ _ _ s).andThen fun u => answers_readResponses _ u
  | startRecordLong | writeRecordLong => exact (answers_emitLong _ _ _ _ _ s).andThen answers_requireResponse
  | endRecordShort => exact (answers_emitShort _ _ _ _ _ _ _ s).andThen answers_endResponses
  | rootShort | getFeatureShort | connCheckShort | readRecordShort | startRecordShort | writeRecordShort | errBShort
  | errCShort => exact answers_emitShort _ _ _ _ _ _ _ s
  | rootLong | getFeatureLong | connCheckLong | statusLong | readRecordLong | endRecordLong | errBLong | errCLong =>
    exact answers_emitLong _ _ _ _ _ s

end

/-- Settles O45: every instruction answers a next state, the sequencer's commands within the step bound, and an
instruction's end leaves an idle sequencer idle. -/
theorem everyInstructionEnds : Obligations.EveryInstructionEnds := by
  intro i s hidle
  obtain ⟨t, ht⟩ := exec_answers i s
  exact ⟨t, ht, (exec_ends ht).idle hidle⟩

end Sys2Proof.Machine
end

section
/-! The block buffer commands (R340 to R342): one law for each command's success and for its refusals, and the bytes of
the block that BLK_BUILD makes. -/

namespace Sys2Proof.Machine

open Sys2Proof.Statements

section
variable {s : State} {line : Byte}

/-! ## Lines (R340, R341) -/

theorem lineCheck_legal (h : line.toNat ≤ 15) : lineCheck line = none :=
  check_eq_none.mpr (decide_eq_false (Nat.not_lt.mpr h))

theorem lineCheck_bad (h : 15 < line.toNat) : lineCheck line = some (.badOperand, 1) := by
  rw [lineCheck, decide_eq_true h, check_true]

theorem properCheck_lineCheck (line : Byte) : ProperCheck s (lineCheck line) := properCheck_check _ _ _

theorem exec_blkWrite_guarded (s : State) (line : Byte) (data : Payload) :
    exec (.blkWrite line data) s =
      guarded [lineCheck line] s fun s =>
        .next (finish .ok []
          { s with
            blk := s.blk.writeBytes (16 * line.toNat) data.toList
            lineValid := markLine s.lineValid line.toNat }) := rfl

theorem exec_blkWrite (h : line.toNat ≤ 15) (data : Payload) (s : State) :
    exec (.blkWrite line data) s =
      .next { s with
        blk := s.blk.writeBytes (16 * line.toNat) data.toList
        lineValid := markLine s.lineValid line.toNat
        res := okWith [] } := by
  rw [exec_blkWrite_guarded, guarded_pass (by rw [lineCheck_legal h]; rfl)]
  rfl

theorem exec_blkRead_guarded (s : State) (line : Byte) :
    exec (.blkRead line) s =
      guarded [lineCheck line, lineWrittenCheck line s] s fun s => .next (finish .ok (s.blk.line line.toNat) s) := rfl

theorem exec_blkRead (h : line.toNat ≤ 15) (hv : s.lineValid.getLsbD line.toNat = true) :
    exec (.blkRead line) s = .next { s with res := okWith (s.blk.line line.toNat) } := by
  rw [exec_blkRead_guarded, guarded_pass (by rw [lineCheck_legal h, lineWrittenCheck, hv]; rfl)]
  rfl

/-- A block command's end (R510). -/
theorem finish_block (m : Memory) (valid : BitVec 16) (s : State) :
    finish .ok [] { s with blk := m, lineValid := valid } = { s with blk := m, lineValid := valid, res := okWith [] } :=
  rfl

/-- The checks of BLK_READ (R341). -/
theorem properCheck_blkRead (s : State) (line : Byte) :
    ∀ c ∈ [lineCheck line, lineWrittenCheck line s], ProperCheck s c :=
  List.forall_mem_cons.mpr ⟨properCheck_lineCheck line, List.forall_mem_singleton.mpr (properCheck_check _ _ _)⟩

/-- Settles O31: the bytes of the line and its bit are written, or the check of the line refuses. -/
theorem blkWriteWrites : Obligations.BlkWriteWrites := by
  intro s line data
  refine ⟨fun h => ⟨_, _, fun a => ?_, fun k _ => getLsbD_markLine s.lineValid (by omega) k, exec_blkWrite h data s⟩,
    fun h hidle => ?_⟩
  · rw [Memory.read_writeBytes, Vector.length_toList]
  · rw [Refuses, exec_blkWrite_guarded,
      guarded_refusal hidle (List.forall_mem_singleton.mpr (properCheck_lineCheck line))
        (by rw [lineCheck_bad h]; rfl)]

/-- Settles O32: the line's bytes, or the first check that fails. -/
theorem blkReadReads : Obligations.BlkReadReads := by
  intro s line
  refine ⟨exec_blkRead, fun h hidle => ?_, fun h hv hidle => ?_⟩
  · rw [Refuses, exec_blkRead_guarded,
      guarded_refusal hidle (properCheck_blkRead s line) (by rw [lineCheck_bad h]; rfl)]
  · rw [Refuses, exec_blkRead_guarded,
      guarded_refusal hidle (properCheck_blkRead s line) (by rw [lineCheck_legal h, lineWrittenCheck, hv]; rfl)]

/-- Bytes written to one line leave every other line as it was. -/
theorem Memory.line_writeBytes_other (m : Memory) {k k' : Nat} (h : k' ≠ k) (bytes : List Byte)
    (hlen : bytes.length = 16) : (m.writeBytes (16 * k) bytes).line k' = m.line k' :=
  Memory.readBytes_congr fun _ _ => Memory.read_writeBytes_outside _ _ (by omega)

/-- A BLK_WRITE, then a BLK_READ of that line or of one that was written before. -/
theorem execAll_blkWrite_blkRead {other : Byte} (hline : line.toNat ≤ 15) (hother : other.toNat ≤ 15) (data : Payload)
    (hv : s.lineValid.getLsbD other.toNat = true ∨ other = line) :
    ∃ t, execAll [.blkWrite line data, .blkRead other] s = .next t ∧
      t.res = okWith ((s.blk.writeBytes (16 * line.toNat) data.toList).line other.toNat) := by
  have hmarked : (markLine s.lineValid line.toNat).getLsbD other.toNat = true := by
    rw [getLsbD_markLine _ (by omega)]
    rcases hv with hv | rfl
    · rw [hv, Bool.true_or]
    · rw [decide_eq_true rfl, Bool.or_true]
  exact ⟨_, (execAll_cons (exec_blkWrite hline data s) _).trans
    ((execAll_cons (exec_blkRead hother hmarked) []).trans rfl), rfl⟩

/-- Settles O33: the written line reads back whole, and the other lines and their bits are untouched. -/
theorem blkWriteThenRead : Obligations.BlkWriteThenRead := by
  intro s line other data hline hother
  constructor
  · obtain ⟨t, ht, hres⟩ := execAll_blkWrite_blkRead (s := s) hline hline data (.inr rfl)
    exact ⟨t, ht, by rw [hres, Memory.line_writeBytes _ _ _ Vector.length_toList]⟩
  · intro hne hv
    have hk : other.toNat ≠ line.toNat := fun h => hne (BitVec.eq_of_toNat_eq h)
    obtain ⟨t, ht, hres⟩ := execAll_blkWrite_blkRead hline hother data (.inl hv)
    exact ⟨t, _, ht, exec_blkRead hother hv, by rw [hres, Memory.line_writeBytes_other _ hk _ Vector.length_toList]⟩

end

/-! ## BLK_BUILD (R342) -/

section
variable {s : State} {poll profile : Byte} {d0 d1 d2 d3 d4 : Half}

/-- The sixteen bytes of line 0 (R160). -/
theorem getD_lineZero (p : Params) (poll profile : Byte) (d0 d1 d2 d3 d4 : Half) {a : Nat} (h : a < 16) :
    (lineZero poll [d0, d1, d2, d3, d4]).getD a 0 = builtByte p poll [d0, d1, d2, d3, d4] profile a := by
  interval_cases a <;> rfl

/-- The sixteen bytes of the name (R162). -/
theorem getD_profileName (p : Params) (poll profile : Byte) (dpi : List Half) {a : Nat} (h : a < 16) :
    (utf16 (profileName profile)).getD a 0 = builtByte p poll dpi profile (160 + a) := by
  interval_cases a <;> rfl

theorem getD_template (p : Params) {a : Nat} (h : a < 256) :
    ((List.range 256).map (templateByte p)).getD a 0 = Memory.read p.template a := by
  simp [templateByte, h]

/-- Each byte is that of the last of the four writes that covers it. -/
theorem read_builtBlock (p : Params) (m : Memory) (poll : Byte) (d0 d1 d2 d3 d4 : Half) (profile : Byte) {a : Nat}
    (h : a < 256) :
    (builtBlock p m poll [d0, d1, d2, d3, d4] profile).read a = builtByte p poll [d0, d1, d2, d3, d4] profile a := by
  simp only [builtBlock, Memory.read_writeBytes, List.length_replicate, length_profileUtf16, length_lineZero,
    List.length_map, List.length_range]
  by_cases hzeros : 176 ≤ a ∧ a < 176 + 16
  · rw [if_pos hzeros, builtByte, if_neg (by omega), if_neg (by omega), if_neg (by omega), if_neg (by omega),
      if_neg (by omega), if_neg (by omega), if_pos hzeros,
      List.getD_eq_getElem _ _ (by rw [List.length_replicate]; omega), List.getElem_replicate]
  · rw [if_neg hzeros]
    by_cases hname : 160 ≤ a ∧ a < 160 + 16
    · rw [if_pos hname, getD_profileName p poll profile [d0, d1, d2, d3, d4] (by omega), Nat.add_sub_cancel' hname.1]
    · rw [if_neg hname]
      by_cases hline : 0 ≤ a ∧ a < 0 + 16
      · rw [if_pos hline, Nat.sub_zero, getD_lineZero p poll profile d0 d1 d2 d3 d4 (by omega)]
      · rw [if_neg hline, if_pos ⟨Nat.zero_le a, by omega⟩, Nat.sub_zero, getD_template p h, builtByte,
          if_neg (by omega), if_neg (by omega), if_neg (by omega), if_neg (by omega), if_neg (by omega),
          if_neg hname, if_neg hzeros]

theorem exec_blkBuild_guarded (s : State) (poll : Byte) (d0 d1 d2 d3 d4 : Half) (profile : Byte) :
    exec (.blkBuild poll d0 d1 d2 d3 d4 profile) s =
      guarded (buildChecks poll profile) s fun s =>
        .next (finish .ok []
          { s with blk := builtBlock s.par s.blk poll [d0, d1, d2, d3, d4] profile, lineValid := 0xFFFF }) := rfl

theorem firstFailing_buildChecks (poll profile : Byte) :
    firstFailing (buildChecks poll profile) =
      if poll.toNat < 1 ∨ 4 < poll.toNat then some (.badOperand, 1)
      else if profile.toNat < 1 ∨ 9 < profile.toNat then some (.badOperand, 12) else none := by
  simp only [buildChecks, firstFailing_check_cons, firstFailing_nil, Bool.or_eq_true, decide_eq_true_eq]

theorem properCheck_buildChecks (poll profile : Byte) : ∀ c ∈ buildChecks poll profile, ProperCheck s c :=
  List.forall_mem_cons.mpr ⟨properCheck_check _ _ _, List.forall_mem_singleton.mpr (properCheck_check _ _ _)⟩

end

/-- Settles O34: the built block byte for byte, or the first of the two checks that fails. -/
theorem blkBuildBuilds : Obligations.BlkBuildBuilds := by
  intro s poll d0 d1 d2 d3 d4 profile
  have hchecks := firstFailing_buildChecks poll profile
  refine ⟨fun h1 h4 h1' h9 => ⟨builtBlock s.par s.blk poll [d0, d1, d2, d3, d4] profile,
    fun a ha => read_builtBlock s.par s.blk poll d0 d1 d2 d3 d4 profile ha, ?_⟩, fun hpoll hidle => ?_,
    fun h1 h4 hprofile hidle => ?_⟩
  · rw [if_neg (by omega), if_neg (by omega)] at hchecks
    rw [exec_blkBuild_guarded, guarded_pass hchecks, finish_block]
  · rw [if_pos hpoll] at hchecks
    rw [Refuses, exec_blkBuild_guarded, guarded_refusal hidle (properCheck_buildChecks poll profile) hchecks]
  · rw [if_neg (by omega), if_pos hprofile] at hchecks
    rw [Refuses, exec_blkBuild_guarded, guarded_refusal hidle (properCheck_buildChecks poll profile) hchecks]

end Sys2Proof.Machine
end

section
/-! The sequencer's steps when every transport call goes well, one law for each phase: a send leaves its frame in OBUF,
a read its bytes in IBUF, and SEQ_* go on as R380 says. The status query and the record pass are runs of these steps.
-/

namespace Sys2Proof.Machine

open Sys2Proof.Statements

variable {s t : State} {len : OutLen} {frame : List Byte} {reads : List (List Byte)} {bytes : List Byte}
variable {p p' : Port} {q : Sequencer} {r : Result}

/-! ## Runs of steps -/

/-- The step of each phase (R380). -/
def stepOf : SeqPhase → State → State
  | .idle => id
  | .qTx => stepQTx
  | .qRx => stepQRx
  | .prep => stepPrep
  | .bTx => stepBTx
  | .bRx => stepBRx
  | .lTx => stepLTx
  | .lRx => stepLRx
  | .eTx => stepETx
  | .eRx => stepERx

theorem seqStep_eq_stepOf (s : State) : seqStep s = stepOf s.seq.phase s := by
  unfold seqStep
  cases s.seq.phase <;> rfl

theorem seqRun_stepOf (n : Nat) {phase : SeqPhase} (h : s.seq.phase = phase) (hne : phase ≠ .idle := by decide) :
    seqRun (n + 1) s = seqRun n (stepOf phase s) := by
  rw [seqRun_succ n (h ▸ hne), seqStep_eq_stepOf, h]

/-- Two runs of one state that answer answer alike: past IDLE the bound makes no difference. -/
theorem seqRun_unique {n m : Nat} {s t u : State} (h : seqRun n s = .next t) (h' : seqRun m s = .next u) : t = u := by
  induction n generalizing m s with
  | zero =>
    by_cases hidle : s.seq.phase = .idle
    · cases (seqRun_idle 0 hidle).symm.trans h
      cases (seqRun_idle m hidle).symm.trans h'
      rfl
    · rw [seqRun, if_neg hidle] at h
      cases h
  | succ n ih =>
    by_cases hidle : s.seq.phase = .idle
    · cases (seqRun_idle (n + 1) hidle).symm.trans h
      cases (seqRun_idle m hidle).symm.trans h'
      rfl
    · cases m with
      | zero =>
        rw [seqRun, if_neg hidle] at h'
        cases h'
      | succ m =>
        rw [seqRun_succ n hidle] at h
        rw [seqRun_succ m hidle] at h'
        exact ih h h'

/-- A sequencer command answers what any run of its start to IDLE answers. -/
theorem Startable.run_eq {start : State} (h : Startable start) {n : Nat} (hrun : seqRun n start = .next t) :
    runSequencer start = .next t := by
  obtain ⟨u, hu⟩ := h.answers
  rw [hu, seqRun_unique hu hrun]

/-! ## Exchanges (R95) -/

/-- The transport's answers depend on the session and the timeout, and on nothing else of the state. -/
theorem exchanges_congr (hses : t.ses = s.ses) (hpar : t.par = s.par) (p : Port) (calls : List Exchange) :
    exchanges t p calls = exchanges s p calls := by
  have hout (frame : List Byte) : outCall t frame = outCall s frame := by simp only [outCall, hses, hpar]
  have hin : inCall t t.par.timeout = inCall s s.par.timeout := by simp only [inCall, hses, hpar]
  have hcall (p : Port) (e : Exchange) : exchange t p e = exchange s p e := by
    cases e <;> simp only [exchange, hout, hin]
  induction calls generalizing p with
  | nil => rfl
  | cons e rest ih => simp only [exchanges, hcall, ih]

/-- The exchanges that send a frame. -/
def isSend : Exchange → Bool
  | .sent _ => true
  | .got _ => false

theorem exchange_counts {e : Exchange} (h : exchange s p e = some p') :
    (framesSent p'.history).length = (framesSent p.history).length + (if isSend e then 1 else 0) ∧
    readsMade p'.history = readsMade p.history + (if isSend e then 0 else 1) := by
  cases e with
  | sent frame =>
    obtain ⟨-, h⟩ := Option.ite_none_right_eq_some.mp h
    cases h
    simp [framesSent, readsMade, Port.afterOut, isSend]
  | got bytes =>
    obtain ⟨-, h⟩ := Option.ite_none_right_eq_some.mp h
    cases h
    simp [framesSent, readsMade, Port.afterIn, isSend]

/-- Exchanges add one call each to the history: a TxWrite for a frame sent, a TxRead for a frame read. -/
theorem exchanges_counts {calls : List Exchange} (h : exchanges s p calls = some p') :
    (framesSent p'.history).length = (framesSent p.history).length + calls.countP isSend ∧
    readsMade p'.history = readsMade p.history + calls.countP (!isSend ·) := by
  induction calls generalizing p with
  | nil =>
    cases h
    exact ⟨rfl, rfl⟩
  | cons e rest ih =>
    obtain ⟨mid, hmid, hrest⟩ := exchanges_append.mp (show exchanges s p ([e] ++ rest) = some p' from h)
    have he : exchange s p e = some mid := by
      cases hx : exchange s p e with
      | none => simp [exchanges, hx] at hmid
      | some x => simpa [exchanges, hx] using hmid
    obtain ⟨hsent, hread⟩ := exchange_counts he
    obtain ⟨hsent', hread'⟩ := ih hrest
    rw [hsent', hsent, hread', hread]
    simp only [List.countP_cons]
    cases isSend e <;> simp <;> omega

/-! ## A send and a read (R380) -/

/-- A frame built in OBUF and sent whole; `use` then moves the sequencer on. -/
theorem sendThen_sent (hlen : frame.length = len.bytes) (hne : len ≠ .empty)
    (ha : (portOf s).answerWrite (outCall s frame) = .ok frame.length) {use : State → State} {f : Sequencer → Sequencer}
    (huse : ∀ v, use v = { v with seq := f v.seq }) :
    AfterReads s len frame [] ((portOf s).afterOut (outCall s frame)) (f q) s.res
      (sendThen use { loadFrame len frame s with seq := q }) := by
  let v : State := { loadFrame len frame s with seq := q }
  have hout : frameOut v = frame := frameOut_loadFrame len frame s hlen
  have hanswer : nextWriteAnswer v = .ok v.olen.bytes := by
    rw [nextWriteAnswer_eq (s := v) hne, hout]
    exact ha.trans (congrArg _ hlen)
  have hafter : afterWrite v = withPort v ((portOf s).afterOut (outCall s frame)) := hout ▸ afterWrite_eq (s := v) hne
  have hsend : send .step v = .ok (afterWrite v) := if_pos hanswer
  refine ⟨overlay s.obuf frame, s.ibuf, s.ilen, s.free,
    carries_overlay (by rw [hlen]; cases len <;> decide) _, holdsLast_nil s, ?_⟩
  show sendThen use v = _
  rw [sendThen, hsend]
  show use (afterWrite v) = _
  rw [huse, hafter]
  rfl

/-- A read of a response that is not empty; `use` comes next (R380, R501). -/
theorem AfterReads.paced (h : AfterReads s len frame reads p q r t)
    (ha : p.answerRead (inCall s s.par.timeout) = .ok bytes) (hne : bytes ≠ []) (use : State → State) :
    ∃ u, paced use t = use u ∧
      AfterReads s len frame (reads ++ [bytes]) (p.afterIn (inCall s s.par.timeout)) q r u := by
  have hread := h.read ha
  have hlen : (afterGot bytes t).ilen.val ≠ 0 := by rw [hread.received.1]; simpa using hne
  refine ⟨afterGot bytes t, ?_, hread⟩
  rw [Machine.paced, recv_ok _ (h.answerRead.trans ha)]
  exact if_neg hlen

/-! ## The block's own frames (R132) -/

theorem beginFrame_eq_beginBytes (s : State) : beginFrame s = beginBytes s s.seq.tgt := by
  rw [beginFrame, ← lowNibble_nibbleOperand 0x6, ← lowNibble_nibbleOperand s.ses.swid, longFrame_lowNibble]
  rfl

theorem lineFrame_eq_lineBytes (s : State) : lineFrame s = lineBytes s s.blk.read s.seq.line.toNat := by
  rw [lineFrame, ← lowNibble_nibbleOperand 0x7, ← lowNibble_nibbleOperand s.ses.swid, longFrame_lowNibble,
    Memory.toList_linePayload]
  rfl

theorem endFrame_eq_endBytes (s : State) : endFrame s = endBytes s := by
  rw [endFrame, ← lowNibble_nibbleOperand 0x8, ← lowNibble_nibbleOperand s.ses.swid, shortFrame_lowNibble]
  rfl

theorem length_beginBytes (s : State) (tgt : Byte) : (beginBytes s tgt).length = 20 := length_longBytes ..

theorem length_lineBytes (s : State) (block : Nat → Byte) (k : Nat) : (lineBytes s block k).length = 20 := by
  simp [lineBytes, longBytes]

theorem stepQTx_sent (ha : (portOf s).answerWrite (outCall s (statusBytes s)) = .ok (statusBytes s).length) :
    AfterReads s .short (statusBytes s) [] ((portOf s).afterOut (outCall s (statusBytes s)))
      { s.seq with disc := 0, phase := .qRx } s.res (stepQTx s) := by
  have hstep : stepQTx s =
      sendThen (toPhase .qRx) { loadFrame .short (statusBytes s) s with seq := { s.seq with disc := 0 } } := by
    rw [stepQTx, statusFrame_eq_statusBytes, sendQuery_eq]
    rfl
  rw [hstep]
  exact sendThen_sent (len := .short) rfl nofun ha (f := fun q => { q with phase := .qRx }) fun _ => rfl

theorem stepBTx_sent
    (ha : (portOf s).answerWrite (outCall s (beginBytes s s.seq.tgt)) = .ok (beginBytes s s.seq.tgt).length) :
    AfterReads s .long (beginBytes s s.seq.tgt) [] ((portOf s).afterOut (outCall s (beginBytes s s.seq.tgt)))
      { s.seq with phase := .bRx } s.res (stepBTx s) := by
  rw [stepBTx_eq, beginFrame_eq_beginBytes]
  exact sendThen_sent (len := .long) (q := s.seq) (length_beginBytes ..) nofun ha
    (f := fun q => { q with phase := .bRx }) fun _ => rfl

theorem stepLTx_sent (hframe : frame = lineBytes s s.blk.read s.seq.line.toNat)
    (ha : (portOf s).answerWrite (outCall s frame) = .ok frame.length) :
    AfterReads s .long frame [] ((portOf s).afterOut (outCall s frame)) { s.seq with phase := .lRx } s.res
      (stepLTx s) := by
  rw [stepLTx_eq, lineFrame_eq_lineBytes, ← hframe]
  exact sendThen_sent (len := .long) (q := s.seq) (hframe ▸ length_lineBytes ..) nofun ha
    (f := fun q => { q with phase := .lRx }) fun _ => rfl

theorem stepETx_sent (ha : (portOf s).answerWrite (outCall s (endBytes s)) = .ok (endBytes s).length) :
    AfterReads s .short (endBytes s) [] ((portOf s).afterOut (outCall s (endBytes s)))
      { s.seq with rxleft := 3, phase := .eRx } s.res (stepETx s) := by
  rw [stepETx_eq, endFrame_eq_endBytes]
  exact sendThen_sent (len := .short) (q := s.seq) rfl nofun ha
    (f := fun q => { q with rxleft := 3, phase := .eRx }) fun _ => rfl

/-! ## The status query (R381, R382) -/

/-- The status query of a state in Q_TX, up to the use of the candidate's status. -/
theorem seqRun_query (n : Nat) {query : Query} (hphase : s.seq.phase = .qTx) (hgood : query.Good s.par)
    (hex : exchanges s (portOf s) (query.exchanges (statusBytes s)) = some p) :
    ∃ (buf ibuf : FrameBuf) (ilen : Fin 21) (free : Nat),
      Carries (statusBytes s) s.obuf.toList buf ∧ Received query.candidate ibuf ilen ∧
      seqRun (n + (query.discards.length + 2)) s =
        seqRun n (useStatus { withTraffic s p buf .short ibuf ilen free with
          st := statusOf query.candidate
          seq := { s.seq with phase := .qRx, disc := query.discards.length } }) := by
  obtain ⟨hmax, hd, h20, h0⟩ := hgood
  obtain ⟨mid, hskipped, hlast⟩ := exchanges_append.mp hex
  obtain ⟨ha, ⟨⟩⟩ := exchanges_got.mp hlast
  obtain ⟨hsend, hskipped⟩ := exchanges_sent.mp hskipped
  obtain ⟨t, ht, hreads⟩ := seqRun_discards (n + 1) hd hskipped rfl (by simpa using hmax) (stepQTx_sent hsend)
  obtain ⟨buf, ibuf, ilen, free, hbuf, hread, heq⟩ := hreads.read ha
  refine ⟨buf, ibuf, ilen, free, hbuf, hread.2 _ List.getLast?_concat, ?_⟩
  have hfuel : n + (query.discards.length + 2) = n + 1 + query.discards.length + 1 := by omega
  rw [hfuel, seqRun_stepOf _ hphase, stepOf, ht, seqRun_qRx n (hreads.seq ▸ rfl),
    stepQRx_status (hreads.answerRead.trans ha) h20 h0, heq, Nat.zero_add]

/-- A query's status in SEQ_QUERY_STATUS completes it (R385). -/
theorem useStatus_query (hop : s.seq.op = .query) (hv : s.st.valid = true) :
    useStatus s =
      { s with
        seq := { s.seq with op := .none, phase := .idle, pass := 0 }
        res := ⟨statusCode s.st, ⟨0, 0, 0, 0⟩, statusData s.st⟩ } := by
  rw [useStatus, if_pos hop, completeQuery_valid hv]

theorem valid_statusOf (h : bytes.length = 20) : (statusOf bytes).valid = true := by
  rw [statusOf, if_pos h]

/-- Settles O39: the query from its start, completed with the candidate's status. -/
theorem queryStatusCompletes : Obligations.QueryStatusCompletes := by
  intro s query p hr hgood hex
  have hexec : exec .seqQueryStatus s = runSequencer (startQuery s) :=
    guarded_pass (body := fun s => runSequencer (startQuery s)) (firstFailing_transportChecks hr)
  obtain ⟨buf, ibuf, ilen, free, hbuf, hread, hrun⟩ := seqRun_query (s := startQuery s) (p := p) 0 rfl hgood
    ((exchanges_congr (s := s) (t := startQuery s) rfl rfl _ _).trans hex)
  refine ⟨buf, ibuf, ilen, free, hbuf, hread, ?_⟩
  rw [useStatus_query rfl (valid_statusOf hgood.2.2.1), seqRun_idle 0 rfl] at hrun
  exact hexec.trans ((startable_query s).run_eq hrun)

end Sys2Proof.Machine
end

section
/-! The record pass (R383, R391): PREP seals the block, then Begin, the lines and End are sent, each with its responses.
`InPass` says what a pass has left so far. -/

namespace Sys2Proof.Machine

open Sys2Proof.Statements

variable {s t u : State} {len : OutLen} {frame frame' : List Byte} {reads : List (List Byte)} {bytes : List Byte}
variable {p p' : Port} {q q' : Sequencer} {r : Result}

/-! ## PREP (R380) -/

/-- The write-id that PREP puts into the block, if it puts one in (R50). -/
def passWid (q : Sequencer) : Option Byte :=
  if q.widmode then some (q.widbase + q.pass.setWidth 8 - 1) else none

theorem insertWriteId_eq (s : State) :
    ∃ m : Memory, m.read = withWriteId s.par (passWid s.seq) s.blk.read ∧
      insertWriteId s = { s with blk := m, seq := { s.seq with wid := (passWid s.seq).getD s.seq.wid } } := by
  unfold insertWriteId passWid
  split_ifs
  · exact ⟨_, funext fun a => Memory.read_write _ _ _ a, rfl⟩
  · exact ⟨s.blk, rfl, rfl⟩

/-- The trailer is no part of what the checksum is taken over (R302). -/
theorem checksumOf_withTrailer (c : Half) (block : Nat → Byte) :
    checksumOf (withTrailer c block) = checksumOf block := by
  have hbytes : (List.range 254).map (withTrailer c block) = (List.range 254).map block := by
    refine List.map_congr_left fun a ha => ?_
    have hlt := List.mem_range.mp ha
    rw [withTrailer, if_neg (by omega), if_neg (by omega)]
  rw [checksumOf, checksumOf, hbytes]

theorem beginPass_writeSeal (c : Half) (s : State) :
    beginPass (writeSeal c s) =
      { s with crc := c, blk := writeTrailer s.blk c, seq := { s.seq with line := 0, phase := .bTx } } := rfl

/-- PREP leaves the block that the pass sends, its checksum in CRC, and the first line to send. -/
theorem stepPrep_eq (s : State) {block : Nat → Byte} (hblock : block = passBlock s.par (passWid s.seq) s.blk.read) :
    ∃ (c : Half) (m : Memory), c = checksumOf block ∧ m.read = block ∧
      stepPrep s =
        { s with
          crc := c
          blk := m
          seq := { s.seq with wid := (passWid s.seq).getD s.seq.wid, line := 0, phase := .bTx } } := by
  obtain ⟨m, hm, hid⟩ := insertWriteId_eq s
  have hsum : checksumOf block = checksumOf m.read := by rw [hblock, passBlock, checksumOf_withTrailer, hm]
  refine ⟨checksumOf m.read, writeTrailer m (checksumOf m.read), hsum.symm, ?_, ?_⟩
  · rw [hblock, passBlock, ← hm]
    exact funext fun a => read_writeTrailer_eq_withTrailer m _ a
  · rw [stepPrep, hid, sealBlock, blockChecksum_eq_checksumOf, beginPass_writeSeal]

/-! ## Inside a pass -/

/-- What a pass that began in `s` has left so far: the last frame sent, a long one, in OBUF; the port is `p`, and SEQ_*
hold `q`. -/
def InPass (s : State) (frame : List Byte) (p : Port) (q : Sequencer) (t : State) : Prop :=
  ∃ (buf ibuf : FrameBuf) (ilen : Fin 21) (free : Nat), buf.toList = frame ∧
    t = { withTraffic s p buf .long ibuf ilen free with seq := q }

/-- A long frame fills OBUF. -/
theorem toList_of_carries_long {old : List Byte} {buf : FrameBuf} (h : Carries frame old buf) (hlen : frame.length = 20)
    (hold : old.length = 20) : buf.toList = frame := by
  rw [h, hlen, List.drop_of_length_le hold.le, List.append_nil]

theorem AfterReads.inPass (h : AfterReads s .long frame reads p q s.res t) (hlen : frame.length = 20) :
    InPass s frame p q t := by
  obtain ⟨buf, ibuf, ilen, free, hbuf, -, rfl⟩ := h
  exact ⟨buf, ibuf, ilen, free, toList_of_carries_long hbuf hlen (Vector.length_toList), rfl⟩

section
variable (h : InPass s frame p q t)
include h

theorem InPass.trans (h' : InPass t frame' p' q' u) : InPass s frame' p' q' u := by
  obtain ⟨buf, ibuf, ilen, free, -, rfl⟩ := h
  obtain ⟨buf', ibuf', ilen', free', hbuf', rfl⟩ := h'
  exact ⟨buf', ibuf', ilen', free', hbuf', rfl⟩

theorem InPass.seq : t.seq = q := by
  obtain ⟨buf, ibuf, ilen, free, -, rfl⟩ := h
  rfl

theorem InPass.blk : t.blk = s.blk := by
  obtain ⟨buf, ibuf, ilen, free, -, rfl⟩ := h
  rfl

theorem InPass.lineBytes (block : Nat → Byte) (k : Nat) : lineBytes t block k = lineBytes s block k := by
  obtain ⟨buf, ibuf, ilen, free, -, rfl⟩ := h
  rfl

theorem InPass.endBytes : endBytes t = endBytes s := by
  obtain ⟨buf, ibuf, ilen, free, -, rfl⟩ := h
  rfl

/-- The transport answers a pass's calls as the port `p` answers them. -/
theorem InPass.exchanges (calls : List Exchange) : exchanges t (portOf t) calls = exchanges s p calls := by
  obtain ⟨buf, ibuf, ilen, free, -, rfl⟩ := h
  exact exchanges_congr (s := s) (t := { withTraffic s p buf .long ibuf ilen free with seq := q }) rfl rfl p calls

end

/-! ## Begin and the lines (R380, B_TX to L_RX) -/

/-- Begin is sent and its response read. -/
theorem seqRun_begin (n : Nat) (hphase : s.seq.phase = .bTx) (hne : bytes ≠ [])
    (hex : exchanges s (portOf s) [.sent (beginBytes s s.seq.tgt), .got bytes] = some p) :
    ∃ u, seqRun (n + 2) s = seqRun n u ∧ InPass s (beginBytes s s.seq.tgt) p { s.seq with phase := .lTx } u := by
  obtain ⟨hsend, hex⟩ := exchanges_sent.mp hex
  obtain ⟨hread, ⟨⟩⟩ := exchanges_got.mp hex
  have hsent := stepBTx_sent hsend
  obtain ⟨u, hu, hgot⟩ := hsent.paced hread hne (toPhase .lTx)
  have hnext := hgot.setSeq { s.seq with phase := .lTx }
  refine ⟨toPhase .lTx u, ?_, ?_⟩
  · rw [seqRun_stepOf (n + 1) hphase, stepOf, seqRun_stepOf n (phase := .bRx) (by rw [hsent.seq]), stepOf, stepBRx,
      hu]
  · rw [toPhase, hgot.seq]
    exact hnext.inPass (length_beginBytes ..)

/-- SEQ_* before line `k` of a pass is sent; after the last line the End is next (R47). -/
def lineSeq (q : Sequencer) (k : Nat) : Sequencer :=
  { q with line := BitVec.ofNat 5 k, phase := if k = 16 then .eTx else .lTx }

theorem nextLine_lineSeq {k : Nat} (hk : k < 16) (h : t.seq = { lineSeq q k with phase := .lRx }) :
    nextLine t = { t with seq := lineSeq q (k + 1) } := by
  have hline : BitVec.ofNat 5 k + 1 = BitVec.ofNat 5 (k + 1) := (BitVec.ofNat_add k 1).symm
  have hlast : BitVec.ofNat 5 (k + 1) = 16 ↔ k + 1 = 16 := by
    rw [← BitVec.toNat_inj, BitVec.toNat_ofNat, Nat.mod_eq_of_lt (by omega)]
    rfl
  rw [nextLine, h]
  simp only [lineSeq, hline, hlast]

/-- A line is sent and its response read. -/
theorem seqRun_line (n : Nat) {k : Nat} (hk : k < 16) (hseq : s.seq = lineSeq q k) (hne : bytes ≠ [])
    (hex : exchanges s (portOf s) [.sent (lineBytes s s.blk.read k), .got bytes] = some p) :
    ∃ u, seqRun (n + 2) s = seqRun n u ∧ InPass s (lineBytes s s.blk.read k) p (lineSeq q (k + 1)) u := by
  have hphase : s.seq.phase = .lTx := by rw [hseq]; exact if_neg (by omega)
  have hline : s.seq.line.toNat = k := by
    rw [hseq]
    exact (BitVec.toNat_ofNat k 5).trans (Nat.mod_eq_of_lt (by omega))
  obtain ⟨hsend, hex⟩ := exchanges_sent.mp hex
  obtain ⟨hread, ⟨⟩⟩ := exchanges_got.mp hex
  have hsent := stepLTx_sent (by rw [hline]) hsend
  obtain ⟨u, hu, hgot⟩ := hsent.paced hread hne nextLine
  refine ⟨nextLine u, ?_, ?_⟩
  · rw [seqRun_stepOf (n + 1) hphase, stepOf, seqRun_stepOf n (phase := .lRx) (by rw [hsent.seq]), stepOf, stepLRx,
      hu]
  · rw [nextLine_lineSeq hk (hgot.seq.trans (by rw [hseq]))]
    exact (hgot.setSeq _).inPass (length_lineBytes ..)

/-- The exchanges of the first `n` lines (R391). -/
def lineExchanges (s : State) (block : Nat → Byte) (response : Nat → List Byte) (n : Nat) : List Exchange :=
  (List.range n).flatMap fun k => [.sent (lineBytes s block k), .got (response (k + 1))]

theorem lineExchanges_succ (s : State) (block : Nat → Byte) (response : Nat → List Byte) (n : Nat) :
    lineExchanges s block response (n + 1) =
      lineExchanges s block response n ++ [.sent (lineBytes s block n), .got (response (n + 1))] := by
  simp [lineExchanges, List.range_succ]

/-- The first lines of a pass, by induction on their number. -/
theorem seqRun_lines (n : Nat) {response : Nat → List Byte} (hne : ∀ i, i < 20 → response i ≠ []) {k : Nat}
    (hk : k ≤ 16) (h : InPass s frame p (lineSeq q 0) t)
    (hex : exchanges s p (lineExchanges s s.blk.read response k) = some p') :
    ∃ u frame', seqRun (n + 2 * k) t = seqRun n u ∧ InPass s frame' p' (lineSeq q k) u ∧
      ∀ j, k = j + 1 → frame' = lineBytes s s.blk.read j := by
  induction k generalizing n p' with
  | zero =>
    cases hex
    exact ⟨t, frame, rfl, h, nofun⟩
  | succ k ih =>
    rw [lineExchanges_succ] at hex
    obtain ⟨mid, hfirst, hlast⟩ := exchanges_append.mp hex
    obtain ⟨v, _, hv, hin, -⟩ := ih (n + 2) (by omega) hfirst
    have hlast' : exchanges v (portOf v) [.sent (lineBytes v v.blk.read k), .got (response (k + 1))] = some p' := by
      rw [hin.exchanges, hin.lineBytes, hin.blk, hlast]
    obtain ⟨u, hu, hnext⟩ := seqRun_line n (by omega) hin.seq (hne _ (by omega)) hlast'
    rw [hin.lineBytes, hin.blk] at hnext
    refine ⟨u, _, ?_, hin.trans hnext, fun j hj => by rw [Nat.succ.inj hj]⟩
    rw [← hu, ← hv]
    congr 1
    omega

/-! ## End (R380, E_TX and E_RX) -/

/-- END_ST1 in pass 1, and END_ST2 in any other, hold the status of the End (R380, E_RX). -/
def withEndSt (st : Status) (q : Sequencer) : Sequencer :=
  { q with endSt1 := if q.pass = 1 then st else q.endSt1, endSt2 := if q.pass = 1 then q.endSt2 else st }

theorem recordEndStatus_eq_withEndSt (st : Status) (s : State) :
    recordEndStatus st s = { s with seq := withEndSt st s.seq } := by
  unfold recordEndStatus withEndSt
  split <;> rfl

/-- The first End response is a status. -/
theorem nextResponse_first (h : t.seq = { q with rxleft := 3, phase := .eRx }) :
    nextResponse t =
      { t with seq := { withEndSt (decodedStatus t) q with rxleft := 2, phase := .eRx } } := by
  have htaken : takeEndStatus t = { t with seq := withEndSt (decodedStatus t) t.seq } := by
    rw [takeEndStatus, if_pos (by rw [h]), recordEndStatus_eq_withEndSt]
  have hleft : (withEndSt (decodedStatus t) t.seq).rxleft - 1 = 2 := by
    rw [h]
    exact (by decide : (3 : BitVec 2) - 1 = 2)
  rw [nextResponse_eq, htaken]
  dsimp only
  rw [hleft, if_neg (by decide), h]
  rfl

theorem takeEndStatus_later (h : t.seq.rxleft ≠ 3) : takeEndStatus t = t := if_neg h

theorem nextResponse_second (h : t.seq.rxleft = 2) : nextResponse t = { t with seq := { t.seq with rxleft := 1 } } := by
  rw [nextResponse_eq, takeEndStatus_later (by rw [h]; decide), h]
  rfl

theorem nextResponse_last (h : t.seq.rxleft = 1) :
    nextResponse t = endPass { t with seq := { t.seq with rxleft := 0 } } := by
  rw [nextResponse_eq, takeEndStatus_later (by rw [h]; decide), h]
  rfl

/-- End is sent and its three responses are read. -/
theorem seqRun_end (n : Nat) {r1 r2 r3 : List Byte} (hphase : s.seq.phase = .eTx) (h1 : r1 ≠ []) (h2 : r2 ≠ [])
    (h3 : r3 ≠ []) (hex : exchanges s (portOf s) [.sent (endBytes s), .got r1, .got r2, .got r3] = some p) :
    ∃ (buf ibuf : FrameBuf) (ilen : Fin 21) (free : Nat),
      Carries (endBytes s) s.obuf.toList buf ∧ Received r3 ibuf ilen ∧
      seqRun (n + 4) s =
        seqRun n (endPass { withTraffic s p buf .short ibuf ilen free with
          seq := { withEndSt (statusOf r1) s.seq with rxleft := 0, phase := .eRx } }) := by
  obtain ⟨hsend, hex⟩ := exchanges_sent.mp hex
  obtain ⟨ha1, hex⟩ := exchanges_got.mp hex
  obtain ⟨ha2, hex⟩ := exchanges_got.mp hex
  obtain ⟨ha3, ⟨⟩⟩ := exchanges_got.mp hex
  have hsent := stepETx_sent hsend
  obtain ⟨t1, hr1, hgot1⟩ := hsent.paced ha1 h1 nextResponse
  rw [nextResponse_first hgot1.seq, decodedStatus_of_received hgot1.received] at hr1
  obtain ⟨t2, hr2, hgot2⟩ :=
    (hgot1.setSeq { withEndSt (statusOf r1) s.seq with rxleft := 2, phase := .eRx }).paced ha2 h2 nextResponse
  rw [nextResponse_second (by rw [hgot2.seq]), hgot2.seq] at hr2
  obtain ⟨t3, hr3, hgot3⟩ :=
    (hgot2.setSeq { withEndSt (statusOf r1) s.seq with rxleft := 1, phase := .eRx }).paced ha3 h3 nextResponse
  rw [nextResponse_last (by rw [hgot3.seq]), hgot3.seq] at hr3
  have hrun : seqRun (n + 4) s =
      seqRun n (endPass { t3 with seq := { withEndSt (statusOf r1) s.seq with rxleft := 0, phase := .eRx } }) := by
    rw [seqRun_stepOf _ hphase, stepOf, seqRun_stepOf _ (phase := .eRx) (by rw [hsent.seq]), stepOf, stepERx, hr1,
      seqRun_stepOf _ (phase := .eRx) rfl, stepOf, stepERx, hr2, seqRun_stepOf _ (phase := .eRx) rfl, stepOf, stepERx,
      hr3]
  obtain ⟨buf, ibuf, ilen, free, hbuf, hread, heq⟩ := hgot3
  refine ⟨buf, ibuf, ilen, free, hbuf, hread.2 _ List.getLast?_concat, ?_⟩
  rw [hrun, heq]

end Sys2Proof.Machine
end

section
/-! A whole record pass (R391), from PREP to the last response, and SEQ_RECORD_PASS, which makes one (R383). -/

namespace Sys2Proof.Machine

open Sys2Proof.Statements

variable {s t u : State} {block block1 block2 : Nat → Byte} {response response1 response2 : Nat → List Byte}
variable {p p' : Port} {q q' : Sequencer}

/-! ## One pass (R391) -/

/-- SEQ_* after the last response of a pass, when only E_RX's move to the next pass or to completion is left. -/
def passSeq (st : Status) (q : Sequencer) : Sequencer :=
  { withEndSt st { q with wid := (passWid q).getD q.wid } with line := 16, rxleft := 0, phase := .eRx }

/-- The lines and the End move SEQ_LINE, SEQ_RXLEFT and SEQ_PHASE on. -/
theorem passSeq_eq_withEndSt (st : Status) (q : Sequencer) :
    passSeq st q =
      { withEndSt st (lineSeq { q with wid := (passWid q).getD q.wid, line := 0, phase := .bTx } 16) with
        rxleft := 0, phase := .eRx } := rfl

/-- What a pass over `block` that began in `s` has left after its last response; SEQ_* hold `q`. -/
def PassDone (s : State) (block : Nat → Byte) (response : Nat → List Byte) (p : Port) (q : Sequencer)
    (t : State) : Prop :=
  ∃ (c : Half) (m : Memory) (buf ibuf : FrameBuf) (ilen : Fin 21) (free : Nat),
    c = checksumOf block ∧ m.read = block ∧
    Carries (endBytes s) (lineBytes s block 15) buf ∧ Received (response 19) ibuf ilen ∧
    t = { withTraffic s p buf .short ibuf ilen free with crc := c, blk := m, seq := q }

section
variable (h : PassDone s block response p q t)
include h

theorem PassDone.seq : t.seq = q := by
  obtain ⟨c, m, buf, ibuf, ilen, free, -, -, -, -, rfl⟩ := h
  rfl

theorem PassDone.setSeq (q' : Sequencer) : PassDone s block response p q' { t with seq := q' } := by
  obtain ⟨c, m, buf, ibuf, ilen, free, hc, hm, hbuf, hread, rfl⟩ := h
  exact ⟨c, m, buf, ibuf, ilen, free, hc, hm, hbuf, hread, rfl⟩

/-- A second pass writes over what the first one left. -/
theorem PassDone.trans (h' : PassDone t block2 response2 p' q' u) : PassDone s block2 response2 p' q' u := by
  obtain ⟨c, m, buf, ibuf, ilen, free, -, -, -, -, rfl⟩ := h
  obtain ⟨c', m', buf', ibuf', ilen', free', hc, hm, hbuf, hread, rfl⟩ := h'
  exact ⟨c', m', buf', ibuf', ilen', free', hc, hm, hbuf, hread, rfl⟩

theorem PassDone.read_blk : t.blk.read = block := by
  obtain ⟨c, m, buf, ibuf, ilen, free, -, hm, -, -, rfl⟩ := h
  exact hm

theorem PassDone.par : t.par = s.par := by
  obtain ⟨c, m, buf, ibuf, ilen, free, -, -, -, -, rfl⟩ := h
  rfl

/-- The calls of the next pass are answered as from the start. -/
theorem PassDone.exchanges (tgt : Byte) :
    exchanges t (portOf t) (passExchanges t tgt block2 response2) =
      exchanges s p (passExchanges s tgt block2 response2) := by
  obtain ⟨c, m, buf, ibuf, ilen, free, -, -, -, -, rfl⟩ := h
  let t : State := { withTraffic s p buf .short ibuf ilen free with crc := c, blk := m, seq := q }
  exact exchanges_congr (s := s) (t := t) rfl rfl p _

end

/-- The calls of a pass: Begin, the lines, End. -/
theorem passExchanges_eq (s : State) (tgt : Byte) (block : Nat → Byte) (response : Nat → List Byte) :
    passExchanges s tgt block response =
      [.sent (beginBytes s tgt), .got (response 0)] ++ lineExchanges s block response 16 ++
        [.sent (endBytes s), .got (response 17), .got (response 18), .got (response 19)] := rfl

/-- A pass is 39 steps: PREP, two for each of the 17 frames that are answered once, and four for the End. -/
theorem seqRun_pass (n : Nat) (hphase : s.seq.phase = .prep) (hne : ∀ i, i < 20 → response i ≠ [])
    (hblock : block = passBlock s.par (passWid s.seq) s.blk.read)
    (hex : exchanges s (portOf s) (passExchanges s s.seq.tgt block response) = some p) :
    ∃ u, seqRun (n + 39) s = seqRun n (endPass u) ∧
      PassDone s block response p (passSeq (statusOf (response 17)) s.seq) u := by
  rw [passExchanges_eq] at hex
  obtain ⟨p2, hex, hend⟩ := exchanges_append.mp hex
  obtain ⟨p1, hbegin, hlines⟩ := exchanges_append.mp hex
  obtain ⟨c, m, hc, hm, hprep⟩ := stepPrep_eq s hblock
  let q : Sequencer := { s.seq with wid := (passWid s.seq).getD s.seq.wid, line := 0, phase := .bTx }
  let s1 : State := { s with crc := c, blk := m, seq := q }
  have hmove (p : Port) (calls : List Exchange) : exchanges s1 p calls = exchanges s p calls :=
    exchanges_congr (s := s) (t := s1) rfl rfl p calls
  have hblk : s1.blk.read = block := hm
  obtain ⟨t, ht, hin⟩ := seqRun_begin (s := s1) (n + 36) rfl (hne 0 (by omega)) ((hmove _ _).trans hbegin)
  obtain ⟨v, frame, hv, hin', hframe⟩ := seqRun_lines (s := s1) (q := q) (n + 4) hne (Nat.le_refl 16) hin
    ((hmove _ _).trans (hblk ▸ hlines))
  obtain ⟨buf, ibuf, ilen, free, hbuf, hread, hu⟩ := seqRun_end (s := v) n (by rw [hin'.seq]; rfl) (hne 17 (by omega))
    (hne 18 (by omega)) (hne 19 (by omega)) ((hin'.exchanges _).trans ((hmove _ _).trans (hin'.endBytes ▸ hend)))
  have hrun : seqRun (n + 39) s =
      seqRun n (endPass { withTraffic v p buf .short ibuf ilen free with
        seq := { withEndSt (statusOf (response 17)) v.seq with rxleft := 0, phase := .eRx } }) := by
    rw [seqRun_stepOf (n + 38) hphase, stepOf, hprep, ht, hv, hu]
  have hframe' : frame = lineBytes s block 15 := hblk ▸ hframe 15 rfl
  obtain ⟨buf', ibuf', ilen', free', hfull, rfl⟩ := hin'
  refine ⟨_, hrun, c, m, buf, ibuf, ilen, free, hc, hm, hfull.trans hframe' ▸ hbuf, hread, ?_⟩
  rw [passSeq_eq_withEndSt]

/-! ## Completion (R385) -/

theorem completeRecord_eq (s : State) :
    completeRecord s =
      { s with
        seq := { s.seq with op := .none, phase := .idle, pass := 0 }
        res := ⟨statusCode (lastStatus s), ⟨0, 0, 0, 0⟩, statusData s.seq.endSt1 ++ statusData s.seq.endSt2⟩ } := by
  rw [completeRecord, resultCode_eq_statusCode]
  rfl

/-- After the last pass the command completes, and IDLE follows. -/
theorem seqRun_endPass_last (n : Nat) (h : ¬ s.seq.pass < s.seq.passes) :
    seqRun n (endPass s) = .next (completeRecord s) := by
  rw [endPass, if_neg h]
  exact seqRun_idle n rfl

/-! ## SEQ_RECORD_PASS (R383) -/

section
variable {profile widmode wid : Byte}

theorem properCheck_seqRecordPass (s : State) (widmode : Byte) :
    ∀ c ∈ transportChecks s ++ [check (1 < widmode.toNat) .badOperand 2, completeCheck s], ProperCheck s c :=
  properCheck_transportChecks (List.forall_mem_cons.mpr
    ⟨properCheck_check _ _ _, List.forall_mem_singleton.mpr properCheck_complete⟩)

theorem exec_seqRecordPass_guarded (s : State) (profile widmode wid : Byte) :
    exec (.seqRecordPass profile widmode wid) s =
      guarded (transportChecks s ++ [check (1 < widmode.toNat) .badOperand 2, completeCheck s]) s fun s =>
        runSequencer (startPass profile widmode wid s) := rfl

theorem exec_seqRecordPass_refuses (hidle : SequencerIdle s) (hr : Ready s) (hmode : 1 < widmode.toNat) :
    Refuses (.seqRecordPass profile widmode wid) s .badOperand 2 := by
  have hfail : firstFailing (transportChecks s ++ [check (1 < widmode.toNat) .badOperand 2, completeCheck s]) =
      some (.badOperand, 2) := by
    rw [transportChecks_pass hr.1 hr.2, decide_eq_true hmode, check_true, firstFailing_some]
  rw [Refuses, exec_seqRecordPass_guarded, guarded_refusal hidle (properCheck_seqRecordPass s widmode) hfail]

theorem exec_seqRecordPass (hr : Ready s) (hmode : widmode.toNat ≤ 1) (hfull : s.lineValid = 0xFFFF) :
    exec (.seqRecordPass profile widmode wid) s = runSequencer (startPass profile widmode wid s) := by
  rw [exec_seqRecordPass_guarded, guarded_pass]
  rw [transportChecks_pass hr.1 hr.2, check_eq_none.mpr (decide_eq_false (Nat.not_lt.mpr hmode)),
    completeCheck_full hfull]
  rfl

/-- The only pass writes the given write-id, if the mode is on (R50). -/
theorem passWid_startPass (profile widmode wid : Byte) (s : State) :
    passWid (startPass profile widmode wid s).seq = if widmode = 1 then some wid else none := by
  have hwid : wid + (1 : BitVec 2).setWidth 8 - 1 = wid := BitVec.add_sub_cancel wid 1
  simp only [passWid, startPass, hwid, decide_eq_true_eq]

/-- SEQ_* at the end of the only pass. -/
theorem passSeq_startPass (st : Status) (profile widmode wid : Byte) (s : State) :
    passSeq st (startPass profile widmode wid s).seq =
      { s.seq with
        op := .pass, phase := .eRx, pass := 1, passes := 1, line := 16, rxleft := 0, tgt := profile
        wid := if widmode = 1 then wid else s.seq.wid
        widbase := wid
        widmode := decide (widmode = 1)
        endSt1 := st
        endSt2 := ⟨false, 0, 0⟩ } := by
  rw [passSeq, passWid_startPass]
  by_cases h : widmode = 1
  · rw [if_pos h, if_pos h]
    rfl
  · rw [if_neg h, if_neg h]
    rfl

theorem countP_passExchanges (s : State) (tgt : Byte) (block : Nat → Byte) (response : Nat → List Byte) :
    (passExchanges s tgt block response).countP isSend = 18 ∧
      (passExchanges s tgt block response).countP (!isSend ·) = 20 := ⟨rfl, rfl⟩

/-- Settles O40: the pass from its start, completed with the End's status; a bad mode is refused. -/
theorem recordPassCompletes : Obligations.RecordPassCompletes := by
  refine fun s profile widmode wid => ⟨exec_seqRecordPass_refuses, ?_⟩
  intro response block p hr hmode hfull hne hblock hex
  obtain ⟨hsent, hreads⟩ := exchanges_counts hex
  obtain ⟨hframes, hgots⟩ := countP_passExchanges s profile block response
  refine ⟨hframes ▸ hsent, hgots ▸ hreads, ?_⟩
  let start : State := startPass profile widmode wid s
  obtain ⟨u, hrun, hdone⟩ := seqRun_pass (s := start) (p := p) 0 rfl hne
    (hblock.trans (by rw [passWid_startPass]; rfl)) ((exchanges_congr (s := s) (t := start) rfl rfl _ _).trans hex)
  rw [passSeq_startPass] at hdone
  rw [seqRun_endPass_last 0 (by rw [hdone.seq]; exact (by decide : ¬ (1 : BitVec 2) < 1))] at hrun
  have hexec := (exec_seqRecordPass hr hmode hfull).trans ((startable_pass s profile widmode wid).run_eq hrun)
  obtain ⟨c, m, buf, ibuf, ilen, free, hc, hm, hbuf, hread, rfl⟩ := hdone
  refine ⟨m, buf, ibuf, ilen, free, congrFun hm, hbuf, hread, ?_⟩
  rw [hexec, completeRecord_eq, ← hc]
  rfl

end

end Sys2Proof.Machine
end

section
/-! SEQ_WRITE_CONFIG (R384): with a profile it makes both passes (R392), and with profile 0 it polls first (R393). -/

namespace Sys2Proof.Machine

open Sys2Proof.Statements

variable {s t u : State} {block1 block2 : Nat → Byte} {response1 response2 : Nat → List Byte} {p p' : Port}

/-! ## Both passes (R392) -/

/-- SEQ_* before the first pass of a configuration write, the other registers being those of `q`. -/
def beforePasses (q : Sequencer) : Sequencer :=
  { q with passes := 2, pass := 1, widmode := true, widbase := 0x1C, phase := .prep }

/-- SEQ_* after the second pass, when only completion is left; `st1` and `st2` are the statuses of the two Ends. -/
def afterPasses (st1 st2 : Status) (q : Sequencer) : Sequencer :=
  { q with
    passes := 2, pass := 2, widmode := true, widbase := 0x1C, wid := 0x1D, line := 16, rxleft := 0, phase := .eRx
    endSt1 := st1, endSt2 := st2 }

/-- SEQ_* between the passes. -/
def betweenPasses (st : Status) (q : Sequencer) : Sequencer :=
  { passSeq st (beforePasses q) with pass := 2, phase := .prep }

theorem passWid_beforePasses (q : Sequencer) : passWid (beforePasses q) = some 0x1C := by
  have hwid : (0x1C : Byte) + (1 : BitVec 2).setWidth 8 - 1 = 0x1C := by decide
  exact congrArg some hwid

theorem passWid_betweenPasses (st : Status) (q : Sequencer) : passWid (betweenPasses st q) = some 0x1D := by
  have hwid : (0x1C : Byte) + (2 : BitVec 2).setWidth 8 - 1 = 0x1D := by decide
  exact congrArg some hwid

theorem passSeq_betweenPasses (st1 st2 : Status) (q : Sequencer) :
    passSeq st2 (betweenPasses st1 q) = afterPasses st1 st2 q := by
  rw [passSeq, passWid_betweenPasses]
  rfl

/-- After a pass that is not the last, the next one is prepared. -/
theorem endPass_next {pass : BitVec 2} (h : s.seq.pass < s.seq.passes) (hnext : s.seq.pass + 1 = pass) :
    endPass s = { s with seq := { s.seq with pass := pass, phase := .prep } } := by
  rw [endPass, if_pos h, hnext]

/-- The two passes of a configuration write, whatever status the first one's End has, and completion. -/
theorem seqRun_twoPasses (n : Nat) {q : Sequencer} (hseq : s.seq = beforePasses q)
    (hne : ∀ i, i < 20 → response1 i ≠ [] ∧ response2 i ≠ [])
    (hblock1 : block1 = passBlock s.par (some 0x1C) s.blk.read)
    (hblock2 : block2 = passBlock s.par (some 0x1D) block1)
    (hex : exchanges s (portOf s) (passExchanges s q.tgt block1 response1 ++ passExchanges s q.tgt block2 response2) =
      some p) :
    ∃ u, seqRun (n + 78) s = .next (completeRecord u) ∧
      PassDone s block2 response2 p (afterPasses (statusOf (response1 17)) (statusOf (response2 17)) q) u := by
  obtain ⟨p1, hex1, hex2⟩ := exchanges_append.mp hex
  obtain ⟨v, hv, hdone⟩ := seqRun_pass (p := p1) (n + 39) (by rw [hseq]; rfl) (fun i hi => (hne i hi).1)
    (block := block1) (by rw [hseq, passWid_beforePasses, hblock1]) (by rw [hseq]; exact hex1)
  rw [hseq] at hdone
  have hnext : endPass v = { v with seq := betweenPasses (statusOf (response1 17)) q } := by
    have hlt : (1 : BitVec 2) < 2 := by decide
    have hadd : (1 : BitVec 2) + 1 = 2 := by decide
    rw [endPass_next (pass := 2) (by rw [hdone.seq]; exact hlt) (by rw [hdone.seq]; exact hadd), hdone.seq,
      betweenPasses]
  have hdone1 := hdone.setSeq (betweenPasses (statusOf (response1 17)) q)
  obtain ⟨u, hu, hdone2⟩ := seqRun_pass n (s := { v with seq := betweenPasses (statusOf (response1 17)) q }) rfl
    (fun i hi => (hne i hi).2) (by rw [passWid_betweenPasses, hdone1.read_blk, hdone1.par, hblock2])
    ((hdone1.exchanges q.tgt).trans hex2)
  rw [passSeq_betweenPasses] at hdone2
  refine ⟨u, ?_, hdone1.trans hdone2⟩
  rw [hv, hnext, hu, seqRun_endPass_last n (by rw [hdone2.seq]; exact (by decide : ¬ (2 : BitVec 2) < 2))]

theorem exec_seqWriteConfig (hr : Ready s) (hfull : s.lineValid = 0xFFFF) (profile : Byte) :
    exec (.seqWriteConfig profile) s = runSequencer (startWrite profile s) := by
  refine guarded_pass (body := fun s => runSequencer (startWrite profile s)) ?_
  rw [transportChecks_pass hr.1 hr.2, completeCheck_full hfull]
  rfl

/-- SEQ_* of a configuration write when the target is known, after `polls` queries. -/
def writeSeq (tgt : Byte) (polls : Nat) (q : Sequencer) : Sequencer :=
  { q with op := .write, tgt := tgt, polls := polls, endSt1 := Status.zero, endSt2 := Status.zero }

theorem seq_startWrite {profile : Byte} (h : profile ≠ 0) (s : State) :
    (startWrite profile s).seq = beforePasses (writeSeq profile 0 s.seq) := by
  rw [startWrite, if_neg h, if_neg h]
  rfl

/-- Settles O41: both passes from the start, completed with the status of the second End. -/
theorem writeConfigTwoPasses : Obligations.WriteConfigTwoPasses := by
  intro s profile response1 response2 block1 block2 p hr hfull hprofile hne hblock1 hblock2 hex
  obtain ⟨hsent, hreads⟩ := exchanges_counts hex
  obtain ⟨hframes1, hgots1⟩ := countP_passExchanges s profile block1 response1
  obtain ⟨hframes2, hgots2⟩ := countP_passExchanges s profile block2 response2
  rw [List.countP_append, hframes1, hframes2] at hsent
  rw [List.countP_append, hgots1, hgots2] at hreads
  refine ⟨hsent, hreads, ?_⟩
  let start : State := startWrite profile s
  obtain ⟨u, hrun, hdone⟩ := seqRun_twoPasses (s := start) (p := p) 0 (seq_startWrite hprofile s) hne hblock1
    hblock2 ((exchanges_congr (s := s) (t := start) rfl rfl _ _).trans hex)
  have hexec := (exec_seqWriteConfig hr hfull profile).trans ((startable_write s profile).run_eq hrun)
  obtain ⟨c, m, buf, ibuf, ilen, free, hc, hm, hbuf, hread, rfl⟩ := hdone
  refine ⟨m, buf, ibuf, ilen, free, congrFun hm, hbuf, hread, ?_⟩
  rw [hexec, completeRecord_eq, ← hc]
  rfl

/-! ## The profile polls (R393) -/

theorem prof_statusOf_candidate {query : Query} {par : Params} (h : query.Good par) :
    (statusOf query.candidate).prof = query.prof := by
  obtain ⟨-, -, h20, -⟩ := h
  rw [statusOf, if_pos h20, Query.prof]

/-- The steps of status queries: one send and a read for each frame. -/
def querySteps (queries : List Query) : Nat := (queries.map fun query => query.discards.length + 2).sum

/-- Apart from the transport's traffic, `t` differs from `s` in ST_*, which hold `st`, and in SEQ_*, which hold `q`. -/
def Polled (s : State) (p : Port) (st : Status) (q : Sequencer) (t : State) : Prop :=
  ∃ (buf : FrameBuf) (len : OutLen) (ibuf : FrameBuf) (ilen : Fin 21) (free : Nat),
    t = { withTraffic s p buf len ibuf ilen free with st := st, seq := q }

section
variable {q : Sequencer} {status : Status} (h : Polled s p status q t)
include h

theorem Polled.exchanges (calls : List Exchange) : exchanges t (portOf t) calls = exchanges s p calls := by
  obtain ⟨buf, len, ibuf, ilen, free, rfl⟩ := h
  exact exchanges_congr (s := s) (t := { withTraffic s p buf len ibuf ilen free with st := status, seq := q }) rfl rfl p
    calls

theorem Polled.st : t.st = status := by
  obtain ⟨buf, len, ibuf, ilen, free, rfl⟩ := h
  rfl

theorem Polled.seq : t.seq = q := by
  obtain ⟨buf, len, ibuf, ilen, free, rfl⟩ := h
  rfl

theorem Polled.par : t.par = s.par := by
  obtain ⟨buf, len, ibuf, ilen, free, rfl⟩ := h
  rfl

theorem Polled.statusBytes : statusBytes t = statusBytes s := by
  obtain ⟨buf, len, ibuf, ilen, free, rfl⟩ := h
  rfl

theorem Polled.setSeq (q' : Sequencer) : Polled s p status q' { t with seq := q' } := by
  obtain ⟨buf, len, ibuf, ilen, free, rfl⟩ := h
  exact ⟨buf, len, ibuf, ilen, free, rfl⟩

theorem Polled.trans {status' : Status} {q' : Sequencer} (h' : Polled t p' status' q' u) :
    Polled s p' status' q' u := by
  obtain ⟨buf, len, ibuf, ilen, free, rfl⟩ := h
  obtain ⟨buf', len', ibuf', ilen', free', rfl⟩ := h'
  exact ⟨buf', len', ibuf', ilen', free', rfl⟩

/-- One poll's query, up to the use of its status. -/
theorem seqRun_poll (n : Nat) {query : Query} (hphase : q.phase = .qTx) (hop : q.op ≠ .query)
    (hgood : query.Good s.par) (hex : exchanges s p (query.exchanges (statusBytes s)) = some p') :
    ∃ v, seqRun (n + (query.discards.length + 2)) t = seqRun n (pollStatus v) ∧
      Polled s p' (statusOf query.candidate) { q with phase := .qRx, disc := query.discards.length } v := by
  obtain ⟨buf, ibuf, ilen, free, -, -, hrun⟩ := seqRun_query (s := t) n (h.seq.symm ▸ hphase) (h.par.symm ▸ hgood)
    ((h.exchanges _).trans (h.statusBytes.symm ▸ hex))
  have hv : Polled t p' (statusOf query.candidate) { t.seq with phase := .qRx, disc := query.discards.length } _ :=
    ⟨buf, .short, ibuf, ilen, free, rfl⟩
  have hop' : t.seq.op ≠ .query := h.seq ▸ hop
  exact ⟨_, hrun.trans (congrArg _ (if_neg hop')), h.seq ▸ h.trans hv⟩

end

/-- Queries that report profile 0, while there are queries left, by induction on them. -/
theorem seqRun_polls (n : Nat) {zeros : List Query} {q : Sequencer} {st : Status} (hphase : q.phase = .qTx)
    (hop : q.op ≠ .query) (hz : ∀ query ∈ zeros, query.Good s.par ∧ query.prof = 0)
    (hmax : q.polls + zeros.length < s.par.maxPolls)
    (hex : exchanges s p (zeros.flatMap fun query => query.exchanges (statusBytes s)) = some p')
    (h : Polled s p st q t) :
    ∃ u st' disc, seqRun (n + querySteps zeros) t = seqRun n u ∧
      Polled s p' st' { q with polls := q.polls + zeros.length, disc := disc, phase := .qTx } u := by
  induction zeros generalizing p q st t with
  | nil =>
    cases hex
    exact ⟨t, st, q.disc, rfl, hphase ▸ h⟩
  | cons query rest ih =>
    obtain ⟨⟨hgood, hprof⟩, hrest⟩ := List.forall_mem_cons.mp hz
    rw [List.flatMap_cons] at hex
    obtain ⟨mid, hfirst, hex⟩ := exchanges_append.mp hex
    rw [List.length_cons] at hmax
    obtain ⟨v, hv, hpolled⟩ := seqRun_poll h (n + querySteps rest) hphase hop hgood hfirst
    have hagain : pollStatus v = { v with seq := { v.seq with polls := v.seq.polls + 1, phase := .qTx } } :=
      pollStatus_again (by rw [hpolled.st, prof_statusOf_candidate hgood, hprof])
        (by rw [hpolled.seq, hpolled.par]; dsimp only; omega)
    rw [hpolled.seq] at hagain
    obtain ⟨u, st', disc, hu, hlast⟩ :=
      ih (q := { q with polls := q.polls + 1, disc := query.discards.length, phase := .qTx }) rfl hop hrest
        (by dsimp only; omega) hex (hpolled.setSeq _)
    refine ⟨u, st', disc, ?_, ?_⟩
    · rw [← hu, ← hagain, ← hv, querySteps, querySteps, List.map_cons, List.sum_cons]
      congr 1
      omega
    · rw [List.length_cons, Nat.add_comm rest.length 1, ← Nat.add_assoc]
      exact hlast

/-- A query that reports a profile starts the first pass with this target. -/
theorem seqRun_lastPoll (n : Nat) {last : Query} {q : Sequencer} {st : Status} (hphase : q.phase = .qTx)
    (hop : q.op ≠ .query) (hgood : last.Good s.par) (hprof : last.prof ≠ 0)
    (hex : exchanges s p (last.exchanges (statusBytes s)) = some p') (h : Polled s p st q t) :
    ∃ u, seqRun (n + (last.discards.length + 2)) t = seqRun n u ∧
      Polled s p' (statusOf last.candidate)
        { q with polls := q.polls + 1, disc := last.discards.length, tgt := last.prof, pass := 1, phase := .prep }
        u := by
  obtain ⟨v, hv, hpolled⟩ := seqRun_poll h n hphase hop hgood hex
  have hst : v.st.prof = last.prof := by rw [hpolled.st, prof_statusOf_candidate hgood]
  have hfound := pollStatus_found (hst ▸ hprof)
  rw [hst, hpolled.seq] at hfound
  exact ⟨_, hv.trans (congrArg _ hfound), hpolled.setSeq _⟩

/-- Settles O42: the polls, then both passes with the last poll's profile as the target. -/
theorem writeConfigPolls : Obligations.WriteConfigPolls := by
  intro s zeros last response1 response2 block1 block2 p hr hfull hz hlast hprof hmax hne hblock1 hblock2 hex
  rw [List.append_assoc, List.flatMap_append, List.flatMap_singleton] at hex
  obtain ⟨p2, hpolls, hpasses⟩ := exchanges_append.mp hex
  obtain ⟨p1, hzeros, hlastEx⟩ := exchanges_append.mp hpolls
  let q : Sequencer := (startWrite 0 s).seq
  have hop : q.op ≠ .query := (by decide : SeqOp.write ≠ .query)
  have hpolls0 : q.polls = 0 := rfl
  have hstart : Polled s (portOf s) s.st q (startWrite 0 s) := ⟨s.obuf, s.olen, s.ibuf, s.ilen, s.free, rfl⟩
  obtain ⟨t, st, disc, ht, hpolled⟩ :=
    seqRun_polls (78 + (last.discards.length + 2)) rfl hop hz (by rw [hpolls0]; omega) hzeros hstart
  obtain ⟨v, hv, hpolled⟩ :=
    seqRun_lastPoll (q := { q with polls := q.polls + zeros.length, disc := disc, phase := .qTx }) 78 rfl hop
      hlast hprof hlastEx hpolled
  rw [hpolls0, Nat.zero_add] at hpolled
  have hseq : v.seq =
      beforePasses (writeSeq last.prof (zeros.length + 1) { s.seq with disc := last.discards.length }) := hpolled.seq
  have hpassesEx := (hpolled.exchanges _).trans hpasses
  obtain ⟨buf, len, ibuf, ilen, free, rfl⟩ := hpolled
  obtain ⟨u, hu, hdone⟩ := seqRun_twoPasses 0 hseq hne hblock1 hblock2 hpassesEx
  rw [Nat.zero_add] at hu
  have hexec := (exec_seqWriteConfig hr hfull 0).trans ((startable_write s 0).run_eq (ht.trans (hv.trans hu)))
  obtain ⟨c, m, buf, ibuf, ilen, free, hc, hm, hbuf, hread, rfl⟩ := hdone
  refine ⟨m, buf, ibuf, ilen, free, congrFun hm, hbuf, hread, ?_⟩
  rw [hexec, completeRecord_eq, ← hc]
  rfl

end Sys2Proof.Machine
end

section
/-! The session commands (R420, R421): the checks of SESSION_OPEN in their order, and what a session command that
succeeds leaves. -/

namespace Sys2Proof.Machine

open Sys2Proof.Statements

variable {s : State} {swid : Byte}

/-! ## SESSION_OPEN (R420) -/

theorem lowNibble_eq_setWidth (b : Byte) : lowNibble b = b.setWidth 4 :=
  (BitVec.setWidth_eq_extractLsb' (by decide)).symm

theorem exec_sessionOpen_guarded (ifnum epIn epOut swid : Byte) (s : State) :
    exec (.sessionOpen ifnum epIn epOut swid) s =
      guarded (sessionOpenChecks swid s) s fun s =>
        .next (finish .ok [] { s with ses := ⟨true, ifnum, epIn, epOut, lowNibble swid, false⟩ }) := rfl

theorem firstFailing_sessionOpenChecks (swid : Byte) (s : State) :
    firstFailing (sessionOpenChecks swid s) =
      if s.ses.isOpen = true then some (.badOperand, 0)
      else if 15 < swid.toNat then some (.badOperand, 4)
      else if swid = 0 then some (.illegalSwid, 0) else none := by
  simp only [sessionOpenChecks, firstFailing_check_cons, firstFailing_nil, decide_eq_true_eq]

/-- A session command's end (R510). -/
theorem finish_session (ses : Session) (free : Nat) (s : State) :
    finish .ok [] { s with ses := ses, free := free } = { s with ses := ses, free := free, res := okWith [] } := rfl

/-- With no failing check the operands are the session, and its software id is the low nibble of swid. -/
theorem exec_sessionOpen (hpass : firstFailing (sessionOpenChecks swid s) = none) (ifnum epIn epOut : Byte) :
    exec (.sessionOpen ifnum epIn epOut swid) s =
      .next { s with ses := ⟨true, ifnum, epIn, epOut, swid.setWidth 4, false⟩, res := okWith [] } := by
  rw [exec_sessionOpen_guarded, guarded_pass hpass, lowNibble_eq_setWidth, finish_session _ s.free s]

/-- At an idle sequencer the first failing check is the refusal. -/
theorem sessionOpen_refuses {code : ResultCode} {aux : Byte} (hidle : SequencerIdle s)
    (hfail : firstFailing (sessionOpenChecks swid s) = some (code, aux)) (ifnum epIn epOut : Byte) :
    Refuses (.sessionOpen ifnum epIn epOut swid) s code aux := by
  rw [Refuses, exec_sessionOpen_guarded, guarded_refusal hidle (properCheck_sessionOpenChecks swid) hfail]

/-- Settles O15: the session is loaded when no check fails, and each refusal is the first check that does. -/
theorem sessionOpens : Obligations.SessionOpens := by
  intro s ifnum epIn epOut swid
  refine ⟨fun hclosed h1 h15 => exec_sessionOpen ?_ .., fun hidle hopen => sessionOpen_refuses hidle ?_ ..,
    fun hidle hclosed hhigh => sessionOpen_refuses hidle ?_ ..,
    fun hidle hclosed hzero => sessionOpen_refuses hidle ?_ ..⟩ <;> rw [firstFailing_sessionOpenChecks]
  · have hne : swid ≠ 0 := fun h => by simp [h] at h1
    rw [if_neg (ne_true_of_eq_false hclosed), if_neg h15.not_gt, if_neg hne]
  · rw [if_pos hopen]
  · rw [if_neg (ne_true_of_eq_false hclosed), if_pos hhigh]
  · rw [if_neg (ne_true_of_eq_false hclosed), if_neg (by simp [hzero]), if_pos hzero]

/-! ## SESSION_CLOSE (R421) -/

/-- The registers that become unspecified take the next four free values. -/
theorem exec_sessionClose (s : State) :
    exec .sessionClose s =
      .next { s with
        ses := ⟨false, Config.freeByte s.free, Config.freeByte (s.free + 1), Config.freeByte (s.free + 2),
          lowNibble (Config.freeByte (s.free + 3)), false⟩
        free := s.free + 4
        res := okWith [] } := by
  rw [exec, execSessionClose, finish_session]

/-- Settles O16: the command has no check, and the free values are the session it leaves. -/
theorem sessionCloses : Obligations.SessionCloses := fun s => ⟨_, _, _, _, _, exec_sessionClose s⟩

end Sys2Proof.Machine
end

section
/-! Refusals that change only the results (R500): bytes whose code is none of R150, the transport commands in a session
that is closed or failed, and the commands that need a line not written. -/

namespace Sys2Proof.Machine

open Sys2Proof.Statements

variable {s : State}

/-! ## Unknown command codes (R507) -/

theorem commandLength_eq_none {code : Byte} (h : code.toNat ∉ commandTable.map Prod.fst) : commandLength code = none :=
  List.lookup_eq_none_iff.mpr fun _ hrow => bne_iff_ne.mpr fun hcode => h (hcode ▸ List.mem_map_of_mem hrow)

theorem decodeCommand_illegalCommand {code : Byte} (h : commandLength code = none) (operands : List Byte) :
    decodeCommand (code :: operands) = .error (.illegalCommand code) := by
  simp only [decodeCommand, h]

/-- Settles O8: the codes of the statement are the first column of the command table, so no row is found. -/
theorem unknownCommandCodes : Obligations.UnknownCommandCodes := by
  intro s hidle
  refine ⟨fun code operands hf hcode => ?_, fun hf => ?_⟩
  · have hd := decodeCommand_illegalCommand (commandLength_eq_none hcode) operands
    rw [step_command_error hf hd, reject]
    exact advance_raise hidle (by decide) _
  · rw [step_command_error hf (e := .emptyCommand) rfl, reject]
    exact advance_raise hidle (by decide) _

/-! ## The session's admission (R508, R512) -/

theorem sessionRefusal_closed (ho : s.ses.isOpen = false) : sessionRefusal s = some (.notOpen, 0) := if_pos ho

theorem sessionRefusal_fatal (ho : s.ses.isOpen = true) (hf : s.ses.fatal = true) :
    sessionRefusal s = some (.transportError, 0) := by
  rw [sessionRefusal, if_neg (ne_false_of_eq_true ho), if_pos hf]

theorem exec_seqWriteConfig_guarded (s : State) (profile : Byte) :
    exec (.seqWriteConfig profile) s =
      guarded (transportChecks s ++ [completeCheck s]) s fun s => runSequencer (startWrite profile s) := rfl

theorem properCheck_seqWriteConfig (s : State) : ∀ c ∈ transportChecks s ++ [completeCheck s], ProperCheck s c :=
  properCheck_transportChecks (List.forall_mem_singleton.mpr properCheck_complete)

theorem refusedBySession_seqRecordPass (profile widmode wid : Byte) :
    RefusedBySession (exec (.seqRecordPass profile widmode wid)) := fun s _ _ hidle hs => by
  rw [exec_seqRecordPass_guarded,
    guarded_refusal hidle (properCheck_seqRecordPass s widmode) (firstFailing_of_sessionRefusal hs _)]

theorem refusedBySession_seqWriteConfig (profile : Byte) : RefusedBySession (exec (.seqWriteConfig profile)) :=
  fun s _ _ hidle hs => by
    rw [exec_seqWriteConfig_guarded,
      guarded_refusal hidle (properCheck_seqWriteConfig s) (firstFailing_of_sessionRefusal hs _)]

/-- The five transport commands ask for the session before anything else (R508). -/
theorem refusedBySession_transportCommands (tsel profile widmode wid : Byte) :
    ∀ i ∈ [Instr.xferSend, .xferRecv tsel, .seqQueryStatus, .seqRecordPass profile widmode wid,
      .seqWriteConfig profile], RefusedBySession (exec i) := by
  simp only [List.forall_mem_cons]
  exact ⟨refusedBySession_transmit, fun _ _ _ => receive_sessionRefusal,
    refusedBySession_guarded fun s => runSequencer (startQuery s), refusedBySession_seqRecordPass profile widmode wid,
    refusedBySession_seqWriteConfig profile, nofun⟩

/-- Settles O17: a closed session and a failed one are the two refusals of the session. -/
theorem transportAdmission : Obligations.TransportAdmission := by
  intro s i tsel profile widmode wid hidle hi
  have hrefused := refusedBySession_transportCommands tsel profile widmode wid i hi s
  exact ⟨fun ho => hrefused _ _ hidle (sessionRefusal_closed ho),
    fun ho hf => hrefused _ _ hidle (sessionRefusal_fatal ho hf)⟩

/-! ## Lines that are not written (R505) -/

theorem exec_seqRecordPass_incomplete {k : Nat} {widmode : Byte} (hidle : SequencerIdle s) (hk : LowestUnwritten s k)
    (hr : Ready s) (hmode : widmode.toNat ≤ 1) (profile wid : Byte) :
    Refuses (.seqRecordPass profile widmode wid) s .blockIncomplete (BitVec.ofNat 8 k) := by
  have hfail : firstFailing (transportChecks s ++ [check (1 < widmode.toNat) .badOperand 2, completeCheck s]) =
      some (.blockIncomplete, BitVec.ofNat 8 k) := by
    rw [transportChecks_pass hr.1 hr.2, check_eq_none.mpr (decide_eq_false hmode.not_gt), firstFailing_none,
      completeCheck_of_lowestUnwritten hk, firstFailing_some]
  rw [Refuses, exec_seqRecordPass_guarded, guarded_refusal hidle (properCheck_seqRecordPass s widmode) hfail]

theorem exec_seqWriteConfig_incomplete {k : Nat} (hidle : SequencerIdle s) (hk : LowestUnwritten s k) (hr : Ready s)
    (profile : Byte) : Refuses (.seqWriteConfig profile) s .blockIncomplete (BitVec.ofNat 8 k) := by
  have hfail : firstFailing (transportChecks s ++ [completeCheck s]) = some (.blockIncomplete, BitVec.ofNat 8 k) := by
    rw [transportChecks_pass hr.1 hr.2, completeCheck_of_lowestUnwritten hk, firstFailing_some]
  rw [Refuses, exec_seqWriteConfig_guarded, guarded_refusal hidle (properCheck_seqWriteConfig s) hfail]

/-- Settles O35: the completeness check comes after the checks that the premises let pass, and BLK_READ's refusal is
that of O32. -/
theorem incompleteBlocksAreRefused : Obligations.IncompleteBlocksAreRefused := by
  intro s k profile widmode wid line hidle
  refine ⟨fun hk => ⟨exec_crcBlock_incomplete hk hidle, fun hr hmode => ?_, fun hr => ?_⟩, fun hline hv => ?_⟩
  · exact exec_seqRecordPass_incomplete hidle hk hr hmode profile wid
  · exact exec_seqWriteConfig_incomplete hidle hk hr profile
  · obtain ⟨-, -, hunwritten⟩ := blkReadReads s line
    exact hunwritten hline hv hidle

end Sys2Proof.Machine
end

section
/-! TRANSPORT_ERROR sticks (R511): while SES_FATAL is set, no instruction makes a transport call, and only SESSION_CLOSE
and reset clear it. `StoppedByFatal` says what the session's checks do then to a command. -/

namespace Sys2Proof.Machine

open Sys2Proof.Statements

variable {s t : State} {i : Instr}

/-! ## A failed session (R511, R512) -/

/-- A command that a failed session stops: it makes no call and does not end with OK. -/
def StoppedByFatal (command : State → Outcome) : Prop :=
  ∀ s, s.ses.fatal = true → ∃ t, command s = .next t ∧ t.res.code ≠ .ok ∧ t.history = s.history

theorem sessionRefusal_of_fatal (hf : s.ses.fatal = true) : ∃ code aux, sessionRefusal s = some (code, aux) := by
  cases ho : s.ses.isOpen with
  | false => exact ⟨_, _, sessionRefusal_closed ho⟩
  | true => exact ⟨_, _, sessionRefusal_fatal ho hf⟩

theorem stoppedByFatal_guarded (rest : State → List Check) (body : State → Outcome) :
    StoppedByFatal fun s => guarded (transportChecks s ++ rest s) s body := by
  intro s hf
  obtain ⟨code, aux, hs⟩ := sessionRefusal_of_fatal hf
  exact ⟨_, guarded_refuse (firstFailing_of_sessionRefusal hs _), sessionRefusal_ne_ok hs, rfl⟩

theorem stoppedByFatal_transmit : StoppedByFatal transmit := stoppedByFatal_guarded _ _

theorem stoppedByFatal_receive (tsel : Byte) : StoppedByFatal (receive tsel) := stoppedByFatal_guarded _ _

theorem stoppedByFatal_seqQueryStatus : StoppedByFatal execSeqQueryStatus := stoppedByFatal_guarded (fun _ => []) _

theorem stoppedByFatal_seqRecordPass (profile widmode wid : Byte) :
    StoppedByFatal (execSeqRecordPass profile widmode wid) := stoppedByFatal_guarded _ _

theorem stoppedByFatal_seqWriteConfig (profile : Byte) : StoppedByFatal (execSeqWriteConfig profile) :=
  stoppedByFatal_guarded _ _

theorem StoppedByFatal.andThen {command : State → Outcome} (h : StoppedByFatal command) (next : State → Outcome) :
    StoppedByFatal fun s => andThen (command s) next := by
  intro s hf
  obtain ⟨t, ht, hcode, hhist⟩ := h s hf
  exact ⟨t, by simp only [ht, andThen_stop hcode], hcode, hhist⟩

theorem StoppedByFatal.history_eq {command : State → Outcome} (h : StoppedByFatal command) (hf : s.ses.fatal = true)
    (ht : command s = .next t) : t.history = s.history := by
  obtain ⟨u, hu, -, hhist⟩ := h s hf
  cases hu.symm.trans ht
  exact hhist

/-- Only the session commands clear SES_FATAL. -/
theorem fatal_of_exec (hf : s.ses.fatal = true) (hw : writesSession i = false) (h : exec i s = .next t) :
    t.ses.fatal = true := by
  rw [(exec_ends h).fatal hw, hf, Bool.true_or]

/-- A frame is built without a call, and the failed session stops the command behind it. -/
theorem andThen_history_of_fatal {second : State → Outcome} (h : StoppedByFatal second) (hf : s.ses.fatal = true)
    (hw : writesSession i = false) (hu : usesTransport i = false) (ht : andThen (exec i s) second = .next t) :
    t.history = s.history := by
  obtain ⟨u, hbuilt, ⟨-, rfl⟩ | ⟨-, hsecond⟩⟩ := andThen_next ht
  · exact (exec_ends hbuilt).frame .history hu
  · exact (h.history_eq (fatal_of_exec hf hw hbuilt) hsecond).trans ((exec_ends hbuilt).frame .history hu)

/-- While SES_FATAL is set, no instruction makes a transport call (R511). -/
theorem history_of_fatal (hf : s.ses.fatal = true) (h : exec i s = .next t) : t.history = s.history := by
  have short {second : State → Outcome} (hsecond : StoppedByFatal second) {dev feat fn sw a b c : Byte}
      (ht : andThen (buildShort dev feat fn sw a b c s) second = .next t) : t.history = s.history :=
    andThen_history_of_fatal (i := .encShort dev feat fn sw a b c) hsecond hf rfl rfl ht
  have long {second : State → Outcome} (hsecond : StoppedByFatal second) {dev feat fn sw : Byte} {payload : Payload}
      (ht : andThen (buildLong dev feat fn sw payload s) second = .next t) : t.history = s.history :=
    andThen_history_of_fatal (i := .encLong dev feat fn sw payload) hsecond hf rfl rfl ht
  have send : StoppedByFatal transmit := stoppedByFatal_transmit
  cases i with
  | sessionOpen | sessionClose | encShort | encLong | decStatus | classify | crcInit | crcUpdate | crcBlock | crcRead
  | blkWrite | blkRead | blkBuild => exact (exec_ends h).frame .history rfl
  | xferSend => exact send.history_eq hf h
  | xferRecv => exact (stoppedByFatal_receive _).history_eq hf h
  | seqQueryStatus => exact stoppedByFatal_seqQueryStatus.history_eq hf h
  | seqRecordPass => exact (stoppedByFatal_seqRecordPass _ _ _).history_eq hf h
  | seqWriteConfig => exact (stoppedByFatal_seqWriteConfig _).history_eq hf h
  | statusShort => exact short (stoppedByFatal_guarded (fun _ => []) _) h
  | profileSwitchShort | endRecordShort => exact short (send.andThen _) ((andThen_assoc ..).symm.trans h)
  | setColorLong | startRecordLong | writeRecordLong => exact long (send.andThen _) ((andThen_assoc ..).symm.trans h)
  | rootShort | getFeatureShort | connCheckShort | readRecordShort | startRecordShort | writeRecordShort | errBShort
  | errCShort => exact short send h
  | rootLong | getFeatureLong | connCheckLong | statusLong | readRecordLong | endRecordLong | errBLong | errCLong =>
    exact long send h

/-! ## SES_FATAL (R511) -/

/-- SESSION_OPEN loads a session where none is open, or is refused and leaves the session registers but SES_FATAL. -/
theorem sessionOpen_fatal {ifnum epIn epOut swid : Byte} (h : exec (.sessionOpen ifnum epIn epOut swid) s = .next t) :
    (t.res.code = .ok ∧ s.ses.isOpen = false) ∨ t.ses.fatal = (s.ses.fatal || t.res.code = .transportError) := by
  rw [exec_sessionOpen_guarded] at h
  rcases guarded_cases _ s _ with ⟨hpass, he⟩ | ⟨code, aux, -, he⟩ <;> rw [he] at h <;> cases h
  · exact .inl ⟨rfl, check_eq_none.mp (eq_none_of_firstFailing hpass _ List.mem_cons_self)⟩
  · exact .inr rfl

/-- Every instruction but SESSION_CLOSE opens a session, or sets SES_FATAL exactly with TRANSPORT_ERROR (R511). -/
theorem exec_fatal (hi : i ≠ .sessionClose) (h : exec i s = .next t) :
    (t.res.code = .ok ∧ s.ses.isOpen = false) ∨ t.ses.fatal = (s.ses.fatal || t.res.code = .transportError) := by
  cases i with
  | sessionClose => exact absurd rfl hi
  | sessionOpen => exact sessionOpen_fatal h
  | _ => exact .inr ((exec_ends h).fatal rfl)

theorem sessionClose_next (h : exec .sessionClose s = .next t) : t.ses.fatal = false ∧ t.res.code = .ok := by
  cases (exec_sessionClose s).symm.trans h
  exact ⟨rfl, rfl⟩

theorem fatal_of_transportError (h : exec i s = .next t) (hcode : t.res.code = .transportError) :
    t.ses.fatal = true := by
  by_cases hi : i = .sessionClose
  · subst hi
    cases hcode.symm.trans (sessionClose_next h).2
  · rcases exec_fatal hi h with ⟨hok, -⟩ | hfatal
    · cases hcode.symm.trans hok
    · rw [hfatal, decide_eq_true hcode, Bool.or_true]

theorem fatal_stays (hsane : SessionSane s) (hf : s.ses.fatal = true) (hi : i ≠ .sessionClose)
    (h : exec i s = .next t) : t.ses.fatal = true := by
  rcases exec_fatal hi h with ⟨-, hclosed⟩ | hfatal
  · cases hclosed.symm.trans (hsane.1 hf)
  · rw [hfatal, hf, Bool.true_or]

/-- Settles O18: what each instruction does to SES_FATAL and to the history of a failed session, and the refusals of
O17. -/
theorem transportErrorSticks : Obligations.TransportErrorSticks := by
  refine ⟨fun i s t h => ⟨fatal_of_transportError h, fun hsane hf hi => ?_, fun hi => ?_⟩,
    fun s i tsel profile widmode wid hi ho hf hidle => ?_, rfl, fun _ => rfl⟩
  · exact ⟨fatal_stays hsane hf hi h, history_of_fatal hf h⟩
  · exact (sessionClose_next (hi ▸ h)).1
  · exact (transportAdmission s i tsel profile widmode wid hidle hi).2 ho hf

end Sys2Proof.Machine
end

section
/-! The raises of TRANSPORT_ERROR in the sequencer's steps (R501, R510): a send that is not taken whole, and a read that
fails or is empty. -/

namespace Sys2Proof.Machine

open Sys2Proof.Statements

variable {s : State} {len : OutLen} {frame : List Byte}

/-! ## Send steps (R380, R501) -/

theorem outLen_of_length (hlen : frame.length = len.bytes) (hne : len ≠ .empty) :
    (if frame.length = 7 then .short else .long : OutLen) = len := by
  rw [hlen]
  cases len with
  | empty => exact absurd rfl hne
  | short | long => rfl

/-- A frame built in OBUF that the transport does not take whole. -/
theorem sendThen_fails (hlen : frame.length = len.bytes) (hne : len ≠ .empty) (hfail : SendFails s frame)
    (use : State → State) (q : Sequencer) :
    sendThen use { loadFrame len frame s with seq := q } =
      raisedInStep { withPort s ((portOf s).afterOut (outCall s frame)) with
        obuf := overlay s.obuf frame, olen := len, seq := q } .transportError 1 := by
  let v : State := { loadFrame len frame s with seq := q }
  have hout : frameOut v = frame := frameOut_loadFrame len frame s hlen
  have hanswer : nextWriteAnswer v ≠ .ok v.olen.bytes := by
    rw [nextWriteAnswer_eq (s := v) hne, hout]
    exact fun h => hfail (h.trans (congrArg _ hlen.symm))
  have hafter : afterWrite v = withPort v ((portOf s).afterOut (outCall s frame)) := hout ▸ afterWrite_eq (s := v) hne
  have hsend : send .step v = .error (raise .step .transportError 1 (afterWrite v)) := if_neg hanswer
  show sendThen use v = _
  rw [sendThen, hsend, hafter]
  exact raise_step ..

/-- SEQ_* when a send step sends: Q_TX has cleared SEQ_DISC (R380). -/
def sendSeq (s : State) : Sequencer := { s.seq with disc := if s.seq.phase = .qTx then 0 else s.seq.disc }

theorem sendSeq_qTx (h : s.seq.phase = .qTx) : sendSeq s = { s.seq with disc := 0 } := by
  rw [sendSeq, if_pos h]

theorem sendSeq_pass (h : s.seq.phase ≠ .qTx) : sendSeq s = s.seq := by
  rw [sendSeq, if_neg h]

/-- The four send steps: the phase's frame is built in OBUF and sent (R380). -/
theorem seqStep_sends (hphase : s.seq.phase = .qTx ∨ s.seq.phase = .bTx ∨ s.seq.phase = .lTx ∨ s.seq.phase = .eTx) :
    ∃ (len : OutLen) (use : State → State), (stepFrame s).length = len.bytes ∧ len ≠ .empty ∧
      seqStep s = sendThen use { loadFrame len (stepFrame s) s with seq := sendSeq s } := by
  rw [seqStep_eq_stepOf]
  rcases hphase with h | h | h | h
  · rw [sendSeq_qTx h, stepFrame, h]
    exact ⟨.short, toPhase .qRx, rfl, nofun, by rw [stepOf, stepQTx, statusFrame_eq_statusBytes, sendQuery_eq]; rfl⟩
  · rw [sendSeq_pass (h ▸ nofun), stepFrame, h]
    exact ⟨.long, toPhase .bRx, length_beginBytes .., nofun, by rw [stepOf, stepBTx_eq, beginFrame_eq_beginBytes]; rfl⟩
  · rw [sendSeq_pass (h ▸ nofun), stepFrame, h]
    exact ⟨.long, toPhase .lRx, length_lineBytes .., nofun, by rw [stepOf, stepLTx_eq, lineFrame_eq_lineBytes]; rfl⟩
  · rw [sendSeq_pass (h ▸ nofun), stepFrame, h]
    exact ⟨.short, _, rfl, nofun, by rw [stepOf, stepETx_eq, endFrame_eq_endBytes]; rfl⟩

/-! ## Receive steps (R380, R501) -/

theorem paced_fail (ha : (portOf s).answerRead (inCall s s.par.timeout) = .fail) (use : State → State) :
    paced use s = raisedInStep (withPort s ((portOf s).afterIn (inCall s s.par.timeout))) .transportError 2 := by
  rw [← nextReadAnswer_eq] at ha
  rw [paced, recv, ha, ← raise_step, ← afterRead_eq]

theorem paced_empty (ha : (portOf s).answerRead (inCall s s.par.timeout) = .ok []) (use : State → State) :
    paced use s = raisedInStep (afterGot [] s) .transportError 3 := by
  rw [paced, recv_ok _ ha, ← raise_step]
  exact if_pos rfl

/-- The receive steps of a pass (R380). -/
theorem seqStep_paced (hphase : s.seq.phase = .bRx ∨ s.seq.phase = .lRx ∨ s.seq.phase = .eRx) :
    ∃ use, seqStep s = paced use s := by
  rw [seqStep_eq_stepOf]
  rcases hphase with h | h | h <;> rw [h] <;> exact ⟨_, rfl⟩

theorem seqStep_readFails
    (hphase : s.seq.phase = .qRx ∨ s.seq.phase = .bRx ∨ s.seq.phase = .lRx ∨ s.seq.phase = .eRx)
    (ha : (portOf s).answerRead (inCall s s.par.timeout) = .fail) :
    seqStep s = raisedInStep (withPort s ((portOf s).afterIn (inCall s s.par.timeout))) .transportError 2 := by
  rcases hphase with hq | hpass
  · rw [seqStep_qRx hq, stepQRx_fail ha]
  · obtain ⟨use, h⟩ := seqStep_paced hpass
    rw [h, paced_fail ha]

/-- Settles O37: the raise of each kind of step, at a state inside the step. -/
theorem stepsRaisePrecisely : Obligations.StepsRaisePrecisely := by
  intro s
  refine ⟨fun hphase hfail => ?_, fun hphase ha => ?_, fun hphase ha => ?_⟩
  · obtain ⟨len, use, hlen, hne, h⟩ := seqStep_sends hphase
    rw [h, sendThen_fails hlen hne hfail, outLen_of_length hlen hne]
    exact ⟨InStep.raisedAt {} _ _, _, carries_overlay (hlen ▸ by cases len <;> decide) _, rfl⟩
  · rw [seqStep_readFails hphase ha]
    exact ⟨InStep.raisedAt {} _ _, rfl⟩
  · obtain ⟨use, h⟩ := seqStep_paced hphase
    rw [h, paced_empty ha]
    exact ⟨InStep.raisedAt {} _ _, _, _, rfl⟩

end Sys2Proof.Machine
end

section
/-! PROTOCOL_MISMATCH (R502): the status query raises it in Q_RX, and a command that runs no query does not end with it.
`NoMismatch` says so of an answer, operation by operation; for the record pass it follows from the transition table. -/

namespace Sys2Proof.Machine

open Sys2Proof.Statements

variable {s t : State}

/-! ## The mismatches of the status query (R502) -/

theorem seqStep_mismatch {bytes : List Byte} {aux : Byte} (hphase : s.seq.phase = .qRx)
    (ha : (portOf s).answerRead (inCall s s.par.timeout) = .ok bytes)
    (hm : mismatchAux s.par s.seq.disc bytes = some aux) : RaisedAt s (seqStep s) .protocolMismatch aux := by
  rw [seqStep_qRx hphase, stepQRx_mismatch ha hm]
  exact InStep.raisedAt {} _ _

/-! ## Admission (R513) -/

/-- The check does not fail with PROTOCOL_MISMATCH. -/
def NoMismatchCheck (c : Check) : Prop := ∀ aux, c ≠ some (.protocolMismatch, aux)

theorem noMismatchCheck_check (bad : Bool) (code : ResultCode) (aux : Byte)
    (hc : code ≠ .protocolMismatch := by decide) : NoMismatchCheck (check bad code aux) := by
  intro aux' h
  cases bad with
  | false => cases h
  | true => cases h; exact hc rfl

theorem noMismatchCheck_complete (s : State) : NoMismatchCheck (completeCheck s) := by
  intro aux h
  unfold completeCheck at h
  split at h <;> cases h

theorem noMismatchCheck_transportChecks {rest : List Check} (h : ∀ c ∈ rest, NoMismatchCheck c) :
    ∀ c ∈ transportChecks s ++ rest, NoMismatchCheck c :=
  List.forall_mem_cons.mpr ⟨noMismatchCheck_check _ _ _, List.forall_mem_cons.mpr ⟨noMismatchCheck_check _ _ _, h⟩⟩

theorem noMismatchCheck_encoderChecks (fn sw : Byte) : ∀ c ∈ encoderChecks fn sw, NoMismatchCheck c := by
  simp only [encoderChecks, List.forall_mem_cons]
  exact ⟨noMismatchCheck_check _ _ _, noMismatchCheck_check _ _ _, noMismatchCheck_check _ _ _,
    noMismatchCheck_check _ _ _, nofun⟩

theorem noMismatchCheck_sessionOpenChecks (swid : Byte) (s : State) :
    ∀ c ∈ sessionOpenChecks swid s, NoMismatchCheck c := by
  simp only [sessionOpenChecks, List.forall_mem_cons]
  exact ⟨noMismatchCheck_check _ _ _, noMismatchCheck_check _ _ _, noMismatchCheck_check _ _ _, nofun⟩

/-! ## Answers -/

/-- The answer does not end with PROTOCOL_MISMATCH. -/
def NoMismatch (answer : Outcome) : Prop := ∀ t, answer = .next t → t.res.code ≠ .protocolMismatch

theorem noMismatch_next (h : t.res.code ≠ .protocolMismatch) : NoMismatch (.next t) := by
  rintro _ ⟨⟩
  exact h

theorem noMismatch_ok (h : t.res.code = .ok) : NoMismatch (.next t) := noMismatch_next (h ▸ nofun)

theorem noMismatch_guarded {checks : List Check} {body : State → Outcome} (hc : ∀ c ∈ checks, NoMismatchCheck c)
    (hb : NoMismatch (body s)) : NoMismatch (guarded checks s body) := by
  rcases guarded_cases checks s body with ⟨-, he⟩ | ⟨code, aux, hfail, he⟩ <;> rw [he]
  · exact hb
  · refine noMismatch_next fun hcode => ?_
    have hcode : code = .protocolMismatch := hcode
    exact hc _ (firstFailing_mem hfail) aux (hcode ▸ rfl)

theorem NoMismatch.andThen {first : Outcome} {second : State → Outcome} (h : NoMismatch first)
    (h' : ∀ u, u.res.code = .ok → NoMismatch (second u)) : NoMismatch (andThen first second) := by
  intro t ht
  obtain ⟨u, hu, ⟨-, rfl⟩ | ⟨hok, hsecond⟩⟩ := andThen_next ht
  · exact h u hu
  · exact h' u hok t hsecond

/-- A command that does all its work at once and ends with OK. -/
theorem noMismatch_guarded_ok {checks : List Check} {body : State → State} (hc : ∀ c ∈ checks, NoMismatchCheck c)
    (hb : (body s).res.code = .ok) : NoMismatch (guarded checks s fun s => .next (body s)) :=
  noMismatch_guarded (body := fun s => .next (body s)) hc (noMismatch_ok hb)

/-! ## The commands and the frames made of them -/

theorem noMismatch_sessionOpen (ifnum epIn epOut swid : Byte) (s : State) :
    NoMismatch (execSessionOpen ifnum epIn epOut swid s) :=
  noMismatch_guarded_ok (noMismatchCheck_sessionOpenChecks swid s) rfl

theorem noMismatch_crcBlock (s : State) : NoMismatch (execCrcBlock s) :=
  noMismatch_guarded_ok (List.forall_mem_singleton.mpr (noMismatchCheck_complete s)) rfl

theorem noMismatch_blkWrite (line : Byte) (data : Payload) (s : State) : NoMismatch (execBlkWrite line data s) :=
  noMismatch_guarded_ok (List.forall_mem_singleton.mpr (noMismatchCheck_check _ _ _)) rfl

theorem noMismatch_blkRead (line : Byte) (s : State) : NoMismatch (execBlkRead line s) :=
  noMismatch_guarded_ok (List.forall_mem_cons.mpr
    ⟨noMismatchCheck_check _ _ _, List.forall_mem_singleton.mpr (noMismatchCheck_check _ _ _)⟩) rfl

theorem noMismatch_blkBuild (poll : Byte) (d0 d1 d2 d3 d4 : Half) (profile : Byte) (s : State) :
    NoMismatch (execBlkBuild poll d0 d1 d2 d3 d4 profile s) :=
  noMismatch_guarded_ok (List.forall_mem_cons.mpr
    ⟨noMismatchCheck_check _ _ _, List.forall_mem_singleton.mpr (noMismatchCheck_check _ _ _)⟩) rfl

theorem noMismatch_buildShort (dev feat fn sw a b c : Byte) (s : State) :
    NoMismatch (buildShort dev feat fn sw a b c s) :=
  noMismatch_guarded_ok (noMismatchCheck_encoderChecks fn sw) rfl

theorem noMismatch_buildLong (dev feat fn sw : Byte) (payload : Payload) (s : State) :
    NoMismatch (buildLong dev feat fn sw payload s) :=
  noMismatch_guarded_ok (noMismatchCheck_encoderChecks fn sw) rfl

theorem noMismatch_transmit (s : State) : NoMismatch (transmit s) := by
  refine noMismatch_guarded (noMismatchCheck_transportChecks (List.forall_mem_singleton.mpr
    (noMismatchCheck_check _ _ _))) ?_
  rcases send_cases .outside s with ⟨-, h⟩ | ⟨-, h⟩ <;> rw [h]
  · exact noMismatch_ok rfl
  · exact noMismatch_next nofun

theorem noMismatch_receive (tsel : Byte) (s : State) : NoMismatch (receive tsel s) := by
  refine noMismatch_guarded (noMismatchCheck_transportChecks (List.forall_mem_singleton.mpr
    (noMismatchCheck_check _ _ _))) ?_
  rcases recv_cases .outside (timeoutOf tsel s.par) s with ⟨bytes, -, -, h⟩ | ⟨-, h⟩ <;> rw [h]
  · exact noMismatch_ok rfl
  · exact noMismatch_next nofun

theorem noMismatch_emitShort (fn : Nibble) (dev feat : Byte) (sw : Nibble) (a b c : Byte) (s : State) :
    NoMismatch (emitShort fn dev feat sw a b c s) :=
  (noMismatch_buildShort _ _ _ _ _ _ _ s).andThen fun u _ => noMismatch_transmit u

theorem noMismatch_emitLong (fn : Nibble) (dev feat : Byte) (sw : Nibble) (payload : Payload) (s : State) :
    NoMismatch (emitLong fn dev feat sw payload s) :=
  (noMismatch_buildLong _ _ _ _ _ s).andThen fun u _ => noMismatch_transmit u

theorem noMismatch_readResponses (n : Nat) (hok : s.res.code = .ok) : NoMismatch (readResponses n s) := by
  induction n generalizing s with
  | zero => exact noMismatch_ok hok
  | succ n ih =>
    refine (noMismatch_receive 0 s).andThen fun u hu => ?_
    split
    · exact noMismatch_ok hu
    · exact ih hu

theorem noMismatch_requireResponse (s : State) : NoMismatch (requireResponse s) := by
  refine (noMismatch_receive 0 s).andThen fun u hu => ?_
  split
  · exact noMismatch_next nofun
  · exact noMismatch_ok hu

theorem noMismatch_endResponses (s : State) : NoMismatch (endResponses s) := by
  refine (noMismatch_requireResponse s).andThen fun first _ => ?_
  refine (noMismatch_requireResponse _).andThen fun second _ => ?_
  refine (noMismatch_requireResponse second).andThen fun third _ => noMismatch_next ?_
  rcases Status.resultCode_cases (decodedStatus first) with h | h <;> rw [finish_res, h] <;> nofun

/-! ## The record pass (R390) -/

/-- A record pass is under way, or has ended without a mismatch. -/
def PassOrEnded (s : State) : Prop :=
  s.seq.phase ∈ passPhases ∨ (s.seq.phase = .idle ∧ s.res.code ≠ .protocolMismatch)

theorem passOrEnded_of_transportError (h : ∃ aux, RaisedAt s t .transportError aux) : PassOrEnded t := by
  obtain ⟨aux, hres, -, hphase, -⟩ := h
  exact .inr ⟨hphase, by rw [hres]; nofun⟩

theorem passOrEnded_of_completed (hphase : t.seq.phase = .idle)
    (hcode : t.res.code = .ok ∨ t.res.code = .deviceRejected) : PassOrEnded t :=
  .inr ⟨hphase, by rcases hcode with h | h <;> rw [h] <;> nofun⟩

/-- The transition table leads from a phase of a pass to another one or to an end, and none of these rows is a mismatch
(R390). -/
theorem PassOrEnded.step (h : PassOrEnded s) : PassOrEnded (seqStep s) := by
  obtain hmem | ⟨hidle, hcode⟩ := h
  · have goesOn {phase : SeqPhase} (hmem : phase ∈ passPhases) (hphase : (seqStep s).seq.phase = phase) :
        PassOrEnded (seqStep s) := .inl (hphase ▸ hmem)
    have hrow := transitionTable s
    unfold Transition at hrow
    revert hrow
    cases hphase : s.seq.phase with
    | idle | qTx | qRx => exact absurd (hphase ▸ hmem) (by decide)
    | prep => exact fun ⟨_, hnext, _⟩ => goesOn (by decide) hnext
    | bTx | bRx | lTx => exact fun ⟨_, hrow⟩ => hrow.elim (goesOn (by decide)) passOrEnded_of_transportError
    | lRx =>
      rintro ⟨-, ⟨hnext, -⟩ | ⟨hnext, -⟩ | hraised⟩
      · exact goesOn (by decide) hnext
      · exact goesOn (by decide) hnext
      · exact passOrEnded_of_transportError hraised
    | eTx => exact fun ⟨_, hrow⟩ => hrow.elim (fun hnext => goesOn (by decide) hnext.1) passOrEnded_of_transportError
    | eRx =>
      rintro ⟨-, ⟨hnext, -⟩ | ⟨hnext, -⟩ | ⟨hend, -, -, hcode⟩ | hraised⟩
      · exact goesOn (by decide) hnext
      · exact goesOn (by decide) hnext
      · exact passOrEnded_of_completed hend hcode
      · exact passOrEnded_of_transportError hraised
  · rw [seqStep_eq_stepOf, hidle]
    exact .inr ⟨hidle, hcode⟩

theorem noMismatch_runSequencer (h : PassOrEnded s) : NoMismatch (runSequencer s) := by
  intro t ht
  obtain ⟨k, -, rfl, hidle⟩ := seqRun_next ht
  have hrun : PassOrEnded (seqStep^[k] s) := Function.Iterate.rec PassOrEnded h (fun _ => PassOrEnded.step) k
  rcases hrun with hmem | ⟨-, hcode⟩
  · rw [hidle] at hmem
    exact absurd hmem (by decide)
  · exact hcode

theorem noMismatch_seqRecordPass (profile widmode wid : Byte) (s : State) :
    NoMismatch (execSeqRecordPass profile widmode wid s) :=
  noMismatch_guarded
    (noMismatchCheck_transportChecks (List.forall_mem_cons.mpr
      ⟨noMismatchCheck_check _ _ _, List.forall_mem_singleton.mpr (noMismatchCheck_complete s)⟩))
    (noMismatch_runSequencer (.inl List.mem_cons_self))

/-! ## Every instruction -/

/-- An instruction that runs no status query does not end with PROTOCOL_MISMATCH. -/
theorem noMismatch_exec {i : Instr} (hq : runsQuery i = false) (s : State) : NoMismatch (exec i s) := by
  cases i with
  | seqQueryStatus | seqWriteConfig | statusShort => cases hq
  | sessionClose | decStatus | classify | crcInit | crcUpdate | crcRead => exact noMismatch_ok rfl
  | sessionOpen => exact noMismatch_sessionOpen _ _ _ _ s
  | encShort => exact noMismatch_buildShort _ _ _ _ _ _ _ s
  | encLong => exact noMismatch_buildLong _ _ _ _ _ s
  | xferSend => exact noMismatch_transmit s
  | xferRecv => exact noMismatch_receive _ s
  | crcBlock => exact noMismatch_crcBlock s
  | blkWrite => exact noMismatch_blkWrite _ _ s
  | blkRead => exact noMismatch_blkRead _ s
  | blkBuild => exact noMismatch_blkBuild _ _ _ _ _ _ _ s
  | seqRecordPass => exact noMismatch_seqRecordPass _ _ _ s
  | profileSwitchShort => exact (noMismatch_emitShort _ _ _ _ _ _ _ s).andThen fun _ => noMismatch_readResponses 3
  | setColorLong => exact (noMismatch_emitLong _ _ _ _ _ s).andThen fun _ => noMismatch_readResponses _
  | startRecordLong | writeRecordLong =>
    exact (noMismatch_emitLong _ _ _ _ _ s).andThen fun u _ => noMismatch_requireResponse u
  | endRecordShort => exact (noMismatch_emitShort _ _ _ _ _ _ _ s).andThen fun u _ => noMismatch_endResponses u
  | rootShort | getFeatureShort | connCheckShort | readRecordShort | startRecordShort | writeRecordShort | errBShort
  | errCShort => exact noMismatch_emitShort _ _ _ _ _ _ _ s
  | rootLong | getFeatureLong | connCheckLong | statusLong | readRecordLong | endRecordLong | errBLong | errCLong =>
    exact noMismatch_emitLong _ _ _ _ _ s

/-- Settles O38: each clause is one value of `mismatchAux`, and the other instructions have no step of a query. -/
theorem queryMismatches : Obligations.QueryMismatches := by
  refine ⟨fun s bytes hphase ha => ?_, fun i s t h hcode => ?_⟩
  · have raised {aux : Byte} (hm : mismatchAux s.par s.seq.disc bytes = some aux) :=
      seqStep_mismatch hphase ha hm
    refine ⟨fun h0 => raised ?_, fun h1 h3 => raised ?_, fun h4 hzero hmax => raised ?_,
      fun h4 h20 hzero => raised ?_⟩ <;> rw [mismatchAux]
    · rw [if_pos h0]
    · rw [if_neg (by omega), if_pos h3]
    · rw [if_neg (by omega), if_neg (by omega), if_pos hzero, if_pos hmax]
    · rw [if_neg (by omega), if_neg (by omega), if_neg hzero, if_pos h20]
  · by_contra hq
    exact noMismatch_exec (Bool.eq_false_iff.mpr hq) s t h hcode

end Sys2Proof.Machine
end

section
/-! The profile polls that find no profile (R509): the queries' frames are the only ones sent, and the last query's
status raises PROFILE_POLL_EXHAUSTED in Q_RX. -/

namespace Sys2Proof.Machine

open Sys2Proof.Statements

variable {s t : State} {p p' : Port}

/-! ## The frames of exchanges (R95) -/

/-- The frame an exchange sends, if it sends one. -/
def sentFrame : Exchange → Option (List Byte)
  | .sent frame => some frame
  | .got _ => none

theorem exchanges_framesSent {calls : List Exchange} (h : exchanges s p calls = some p') :
    framesSent p'.history = framesSent p.history ++ calls.filterMap sentFrame := by
  induction calls generalizing p with
  | nil =>
    cases h
    exact (List.append_nil _).symm
  | cons e rest ih =>
    cases e with
    | sent frame =>
      obtain ⟨-, hrest⟩ := exchanges_sent.mp h
      have hsent : framesSent (p.afterOut (outCall s frame)).history = framesSent p.history ++ [frame] :=
        List.filterMap_append
      rw [ih hrest, hsent, List.append_assoc]
      rfl
    | got bytes =>
      obtain ⟨-, hrest⟩ := exchanges_got.mp h
      have hsent : framesSent (p.afterIn (inCall s s.par.timeout)).history = framesSent p.history ++ [] :=
        List.filterMap_append
      rw [ih hrest, hsent, List.append_nil]
      rfl

theorem filterMap_sentFrame_got (reads : List (List Byte)) : (reads.map Exchange.got).filterMap sentFrame = [] := by
  simp [List.filterMap_map, Function.comp_def, sentFrame]

/-- A query sends one frame. -/
theorem filterMap_sentFrame_query (frame : List Byte) (query : Query) :
    (query.exchanges frame).filterMap sentFrame = [frame] := by
  rw [Query.exchanges, List.filterMap_append, List.filterMap_cons_some (f := sentFrame) rfl, filterMap_sentFrame_got]
  rfl

theorem filterMap_sentFrame_queries (frame : List Byte) (queries : List Query) :
    (queries.flatMap fun query => query.exchanges frame).filterMap sentFrame =
      List.replicate queries.length frame := by
  induction queries with
  | nil => rfl
  | cons query rest ih =>
    rw [List.flatMap_cons, List.filterMap_append, filterMap_sentFrame_query, ih]
    rfl

/-! ## The last poll (R509) -/

/-- The polls of a configuration write whose queries all report profile 0, the last one using up P_MAX_PROFILE_POLLS. -/
theorem seqRun_exhausted (n : Nat) {zeros : List Query} {last : Query} {q : Sequencer} {st : Status}
    (hphase : q.phase = .qTx) (hop : q.op ≠ .query) (hpolls : q.polls = 0)
    (hz : ∀ query ∈ zeros ++ [last], query.Good s.par ∧ query.prof = 0) (hmax : zeros.length + 1 = s.par.maxPolls)
    (hex : exchanges s p ((zeros ++ [last]).flatMap fun query => query.exchanges (statusBytes s)) = some p')
    (h : Polled s p st q t) :
    ∃ v st' disc, seqRun (n + (last.discards.length + 2) + querySteps zeros) t =
        seqRun n (raisedInStep v .profilePollExhausted (BitVec.ofNat 8 s.par.maxPolls)) ∧
      Polled s p' st' { q with polls := s.par.maxPolls, disc := disc, phase := .qRx } v := by
  obtain ⟨hzeros, hlast⟩ := List.forall_mem_append.mp hz
  obtain ⟨hgood, hprof⟩ := hlast last List.mem_cons_self
  rw [List.flatMap_append, List.flatMap_singleton] at hex
  obtain ⟨mid, hzerosEx, hlastEx⟩ := exchanges_append.mp hex
  obtain ⟨u, st', disc, hu, hpolled⟩ := seqRun_polls (n + (last.discards.length + 2)) hphase hop hzeros
    (by rw [hpolls]; omega) hzerosEx h
  obtain ⟨v, hv, hpolled⟩ := seqRun_poll hpolled n rfl hop hgood hlastEx
  have hseq := hpolled.seq
  have hcount : v.seq.polls + 1 = s.par.maxPolls := by rw [hseq, ← hmax]; simp only [hpolls, Nat.zero_add]
  have hexhausted := pollStatus_exhausted (s := v) (by rw [hpolled.st, prof_statusOf_candidate hgood, hprof])
    (by rw [hcount, hpolled.par])
  rw [hcount] at hexhausted
  refine ⟨{ v with seq := { v.seq with polls := s.par.maxPolls } }, statusOf last.candidate, last.discards.length,
    by rw [hu, hv, hexhausted], ?_⟩
  rw [hseq]
  exact hpolled.setSeq _

/-- Settles O43: the bound on the polls is at least 1, so there is a last query; its status is the raise. -/
theorem pollExhausted : Obligations.PollExhausted := by
  intro s queries p hr hfull hz hlen hex
  refine ⟨?_, ?_⟩
  · rw [exchanges_framesSent hex, filterMap_sentFrame_queries, hlen]
  · have hne : queries ≠ [] := by
      rintro rfl
      exact absurd hlen (Nat.succ_ne_zero _).symm
    obtain ⟨zeros, last, rfl⟩ := (List.eq_nil_or_concat' queries).resolve_left hne
    rw [List.length_append, List.length_singleton] at hlen
    let q : Sequencer := (startWrite 0 s).seq
    have hstart : Polled s (portOf s) s.st q (startWrite 0 s) := ⟨s.obuf, s.olen, s.ibuf, s.ilen, s.free, rfl⟩
    obtain ⟨v, st, disc, hrun, hpolled⟩ :=
      seqRun_exhausted 0 rfl (by decide : SeqOp.write ≠ .query) rfl hz hlen hex hstart
    have hexec := (exec_seqWriteConfig hr hfull 0).trans ((startable_write s 0).run_eq (hrun.trans (seqRun_idle 0 rfl)))
    obtain ⟨buf, len, ibuf, ilen, free, rfl⟩ := hpolled
    exact ⟨_, hexec, rfl, rfl, by simp, rfl, rfl, rfl, rfl, rfl, rfl, rfl⟩

end Sys2Proof.Machine
end
